-- ==== Sys2Proof/Word.lean ====
section
/-! DEFINITION. The words of the bridge: what the spec gives a width, and the indices of its fixed tables. -/

namespace Sys2Proof

/-- A byte of a record, a frame or a line. -/
abbrev Byte := BitVec 8

/-- A host address: 40 bits (spec/00_scope.md section 8). -/
abbrev Addr := BitVec 40

/-- A sequence number of a ring, 64 bits; 0 stands for "exhausted" (R8). -/
abbrev Seq := BitVec 64

/-- An epoch number, 32 bits (R9). -/
abbrev Epoch := BitVec 32

/-- A journal tag, 16 bits (R2). -/
abbrev JournalTag := BitVec 16

/-- The check of a record, a CRC-32 (R181). -/
abbrev Check := BitVec 32

/-- A ring, 0 to 3. -/
abbrev RingId := Fin 4

/-- A place of the write context pool, 0 to 7 (R41). -/
abbrev CtxId := Fin 8

/-- A host tag, 0 to 31 (R153). -/
abbrev HostTag := Fin 32

/-- An own tag: the number `i` is the own tag `32 + i` of the pool of own tags 32 to 63 (R161). -/
abbrev OwnTag := Fin 32

/-- A command slot, 0 or 1 (R168). -/
abbrev SlotId := Fin 2

end Sys2Proof
end

