-- ==== Sys2Proof/Config.lean ====
section
/-! DEFINITION. The numbers the WJ-4 fixes (spec/00_scope.md section 8), and the one free value of the model. -/

namespace Sys2Proof.Config

/-- Entries of the hold queue (R74). -/
abbrev holdPlaces : Nat := 16

/-- Requests the forward buffer holds (R159). -/
abbrev forwardPlaces : Nat := 4

/-- Entries of a touched-line set (R64). -/
abbrev touchedPlaces : Nat := 256

/-- Records the event queue holds (R175). -/
abbrev eventPlaces : Nat := 32

/-- Regions of the region table (R29). -/
abbrev regionPlaces : Nat := 12

/-- The own-access timeout in µs (R161, R163). -/
abbrev ownTimeout : Nat := 1000

/-- The fault score at which SCORE-SUSPECT is raised (R150). -/
abbrev suspectScore : Nat := 64

/-- The fault score at which a ring is broken (R151). -/
abbrev failedScore : Nat := 160

/-- The highest fault score (R148). -/
abbrev topScore : Nat := 255

/-- What a failed own access adds to the fault score (R148). -/
abbrev failureWeight : Nat := 16

/-- The scan reads a search keeps requested and not yet ended (R132). -/
abbrev searchReads : Nat := 4

/-- FREE VALUE (log 5): the choices of an order that the spec leaves open, when no choice has been given from
outside. It has no body, so nothing can be proved of the order it gives. -/
opaque freeChoice : Nat → Nat

end Sys2Proof.Config
end

