-- ==== Sys2Proof/Syntax.lean ====
section
/-! DEFINITION. The commands of the bridge: one constructor for each row of spec/opcode_table.json, with its operands. -/

namespace Sys2Proof

/-- The kind of a host request or of a memory access (R153). -/
inductive ReqKind where
  | read
  | write
deriving DecidableEq, Repr

/-- A host request (R153). `size` is the size code as received: 0 to 3 are 8, 16, 32 and 64 bytes, 4 to 7 are
illegal. `data` and `enables` are those of a WRITE and empty for a READ. -/
structure HostRequest where
  kind    : ReqKind
  tag     : HostTag
  addr    : Addr
  size    : BitVec 3
  data    : List Byte
  enables : List Bool
deriving DecidableEq, Repr

/-- The status of a response of the memory module: OKAY, ERROR, or any other status (R160, R163). -/
inductive MemStatus where
  | okay
  | error
  | other
deriving DecidableEq, Repr

/-- Which acts of a read frame a command stands for (R167): the whole frame with nothing between its two acts, or
the completion of its kind byte alone, or its end. `bytes` counts the whole body bytes shifted before SSEL_N rises. -/
inductive FramePart where
  | whole (bytes : Nat)
  | kindByte
  | ends (bytes : Nat)
deriving DecidableEq, Repr

/-- Which acts of the execution of a command a row stands for (R170): both with nothing between them, or the act in
which the command unit takes the slot loaded first, or the act in which the owner of the command being executed
answers. -/
inductive CommandPart where
  | whole
  | takes
  | answers
deriving DecidableEq, Repr

/-- The commands the block takes. The twelve that the command unit executes (R170) name only their acts: the command unit
takes the slot loaded first, and the record in it gives the parameters (R182). -/
inductive Instr where
  /-- The host presents a request (R154). -/
  | hostRequest (req : HostRequest)
  /-- The hold queue makes the pass that has been asked for (R78). -/
  | reEvaluation
  /-- Memory responds under a tag from 0 to 31; `data` are the bytes read (R160). -/
  | memoryResponse (tag : HostTag) (status : MemStatus) (data : List Byte)
  /-- The response channel takes the response that became ready first (R158). -/
  | responseReturn
  /-- The memory port can take a request (R162). -/
  | arbiterGrant
  /-- `elapsed` µs pass, and the timeout of the access issued under own tag `32 + tag` is taken (R163). -/
  | ownAccessTimeout (tag : OwnTag) (elapsed : Nat)
  /-- Memory responds under an own tag that is free, quarantined or held by an orphan (R62, R163). -/
  | orphanResponse (tag : OwnTag) (status : MemStatus) (data : List Byte)
  /-- Memory responds to a pre-read (R44); `data` are the 64 bytes of the line. -/
  | preReadComplete (tag : OwnTag) (status : MemStatus) (data : List Byte)
  /-- The ring controller takes the reservation request of a context in RESERVE (R11, R46). -/
  | reservationRequest (ctx : CtxId)
  /-- Memory responds to an image write (R49). -/
  | imageWriteComplete (tag : OwnTag) (status : MemStatus)
  /-- Memory responds to a PRE-IMAGE header write (R50). -/
  | headerWriteComplete (tag : OwnTag) (status : MemStatus)
  /-- The ring controller takes the durability report for a sequence number (R18, R19). -/
  | durabilityReport (ring : RingId) (seq : Seq)
  /-- The command unit executes a CHECKPOINT (R87). -/
  | checkpoint (part : CommandPart := .whole)
  /-- `elapsed` µs pass, and the expiry of the ring's checkpoint timer is taken (R90). -/
  | timerExpiry (ring : RingId) (elapsed : Nat)
  /-- The 1 µs tick samples CKPT once for each of `levels`, oldest first; a rising edge that a sample recognises is
  delivered to the ring controllers (R92, R165). -/
  | ckptEdge (levels : List Bool := [false, true])
  /-- Memory responds to a checkpoint's mark header write (R98). -/
  | checkpointMarkWriteComplete (tag : OwnTag) (status : MemStatus)
  /-- The command unit executes a ROLLBACK (R105). -/
  | rollback (part : CommandPart := .whole)
  /-- Memory responds to a restore header or image read (R108); `data` are its 32 or 64 bytes. -/
  | restoreReadComplete (tag : OwnTag) (status : MemStatus) (data : List Byte)
  /-- Memory responds to a restore write (R110). -/
  | restoreWriteComplete (tag : OwnTag) (status : MemStatus)
  /-- Memory responds to a rollback's mark header write (R115). -/
  | rollbackMarkWriteComplete (tag : OwnTag) (status : MemStatus)
  /-- Memory responds to a steering header or image read (R122); `data` are its 32 or 64 bytes. -/
  | steeringReadComplete (tag : OwnTag) (status : MemStatus) (data : List Byte)
  /-- The command unit executes an OPEN-RING (R127). -/
  | openRing (part : CommandPart := .whole)
  /-- Memory responds to a FRESH mark header write (R130). -/
  | freshMarkWriteComplete (tag : OwnTag) (status : MemStatus)
  /-- Memory responds to a header read of the search (R132); `data` are its 32 bytes. -/
  | searchReadComplete (tag : OwnTag) (status : MemStatus) (data : List Byte)
  /-- Memory responds to a header or image read of the walk (R134); `data` are its 32 or 64 bytes. -/
  | walkReadComplete (tag : OwnTag) (status : MemStatus) (data : List Byte)
  /-- The command unit executes a CLOSE-RING (R137). -/
  | closeRing (part : CommandPart := .whole)
  /-- The command unit executes a RESET-RING (R141). -/
  | resetRing (part : CommandPart := .whole)
  /-- The command unit executes a SET-MODE (R27). -/
  | setMode (part : CommandPart := .whole)
  /-- The command unit executes a WRITE-REGION (R30). -/
  | writeRegion (part : CommandPart := .whole)
  /-- The command unit executes a READ-REGION (R31). -/
  | readRegion (part : CommandPart := .whole)
  /-- The command unit executes a CONFIGURE-RING (R3). -/
  | configureRing (part : CommandPart := .whole)
  /-- The command unit executes a READ-RING (R21). -/
  | readRing (part : CommandPart := .whole)
  /-- The command unit executes a SET-INTERVAL (R91). -/
  | setInterval (part : CommandPart := .whole)
  /-- The command unit executes a command whose code is undefined (R171). -/
  | unknownCommand (part : CommandPart := .whole)
  /-- A COMMAND frame to a slot ends; `body` are the whole body bytes received (R168). -/
  | commandFrame (slot : SlotId) (body : List Byte)
  /-- A RESPONSE read of a slot (R172). -/
  | responseRead (slot : SlotId) (part : FramePart)
  /-- A STATUS read (R173, R174). -/
  | statusRead (part : FramePart)
  /-- An EVENT read (R177). -/
  | eventRead (part : FramePart)
  /-- A frame with a kind byte that is not defined, and the whole body bytes shifted after it (R166). -/
  | unknownFrameKind (kind : Byte) (bytes : Nat)
  /-- RESET_N is low, or power comes on (R23, R165). -/
  | deviceReset
  /-- RESET_N goes high; `selectLow` tells whether SSEL_N is low at that moment, `ckptHigh` whether CKPT is high
  (R165, R179). -/
  | deviceResetEnd (selectLow : Bool) (ckptHigh : Bool := false)
deriving DecidableEq, Repr

end Sys2Proof
end

