-- ==== Sys2Proof/Machine/State.lean ====
section
/-! DEFINITION. Everything the spec gives the bridge to hold, and the machine right after reset. -/

namespace Sys2Proof.Machine

/-- The device mode (R25). -/
inductive Mode where
  | config
  | run
deriving DecidableEq, Repr

/-- The class of a region (R29). -/
inductive RegionClass where
  | pass
  | journal
  | guard
deriving DecidableEq, Repr

/-- A region entry (R29). -/
structure Region where
  enable : Bool
  base   : Addr
  mask   : Addr
  cls    : RegionClass
  ring   : RingId
deriving DecidableEq, Repr

/-- The full policy of a ring: REFUSE or BREAK (R2). -/
inductive FullPolicy where
  | refuse
  | breaks
deriving DecidableEq, Repr

/-- The configuration record of a ring (R2). `cells = 0` marks the ring as unconfigured. -/
structure RingConfig where
  base      : Addr
  cells     : Nat
  tag       : JournalTag
  policy    : FullPolicy
  highWater : Nat
  interval  : Fin 6
  pin       : Bool
deriving DecidableEq, Repr

/-- The seven ring states (01 section 1.8). -/
inductive RingState where
  | closed
  | opening
  | active
  | checkpointing
  | rolling
  | closing
  | broken
deriving DecidableEq, Repr

/-- The sub-phases (R21). -/
inductive SubPhase where
  | none
  | drain
  | scan
  | restore
  | mark
deriving DecidableEq, Repr

/-- A ring state with its sub-phase: the pairs 01 section 1.8 allows, and no other. -/
inductive Phase where
  | closed
  | openingDrain
  | openingScan
  | openingMark
  | active
  | checkpointingDrain
  | checkpointingMark
  | rollingDrain
  | rollingRestore
  | rollingMark
  | closingDrain
  | broken
deriving DecidableEq, Repr

/-- The causes of BROKEN and of OPEN-FAILED (12 section 12.2). -/
inductive Cause where
  | none
  | full
  | recordFailed
  | markFailed
  | restoreFailed
  | checksum
  | score
  | sequence
  | noJournal
deriving DecidableEq, Repr

/-- The trigger of a checkpoint (06). -/
inductive CkptReason where
  | command
  | timer
  | pin
deriving DecidableEq, Repr

/-- The reason an EPOCH-MARK carries (R6). -/
inductive MarkReason where
  | fresh
  | checkpoint (reason : CkptReason)
  | rollback
deriving DecidableEq, Repr

/-- The mode of an open (R127). -/
inductive OpenMode where
  | fresh
  | recover
deriving DecidableEq, Repr

/-- The part of the recovery scan in progress (08). -/
inductive ScanPart where
  | search
  | walk
deriving DecidableEq, Repr

/-- The cause of a CLOSED event (R176). -/
inductive CloseCause where
  | command
  | reset
deriving DecidableEq, Repr

/-- An entry of the outstanding-record list (R18). -/
structure OutRecord where
  seq     : Seq
  cell    : Nat
  durable : Bool
deriving DecidableEq, Repr

/-- An entry of the touched-line set (R64). -/
structure TouchedEntry where
  line     : Addr
  cell     : Nat
  restored : Bool
deriving DecidableEq, Repr

/-- The mark a ring controller is writing, from its reservation until it is durable or fails (R97, R114, R130). -/
structure Mark where
  cell     : Nat
  seq      : Seq
  epoch    : Epoch
  reason   : MarkReason
  released : Nat
deriving DecidableEq, Repr

/-- A host read that the ring controller answers from a record (R122). `header` holds the bytes of the header read
once it has completed OKAY. -/
structure Steered where
  req    : HostRequest
  cell   : Nat
  header : Option (List Byte)
deriving DecidableEq, Repr

/-- The newest valid mark the search has found (08). -/
structure NewestMark where
  cell  : Nat
  seq   : Seq
  epoch : Epoch
deriving DecidableEq, Repr

/-- The state of one ring controller (chapters 1, 3, 4, 6, 7, 8 and 9). The steering reads count is the number of
entries of `steered`, the touched occupancy that of `touched`. -/
structure Ring where
  config        : RingConfig
  phase         : Phase
  release       : Nat
  produce       : Nat
  live          : Nat
  nextSeq       : Seq
  epoch         : Epoch
  frontier      : Seq
  outstanding   : List OutRecord
  touched       : List TouchedEntry
  complete      : Bool
  score         : Nat
  lastCause     : Cause
  highArmed     : Bool
  fullArmed     : Bool
  inFlight      : Nat
  timer         : Option Nat
  reason        : Option CkptReason
  markRetry     : Bool
  mark          : Option Mark
  cursor        : Option Nat
  expected      : Option Seq
  restored      : Nat
  restoreRetry  : Bool
  restoreHeader : Option (List Byte)
  restoreImage  : Option (List Byte)
  steered       : List Steered
  openMode      : Option OpenMode
  scanPart      : Option ScanPart
  searchCell    : Nat
  scanReads     : Nat
  newest        : Option NewestMark
  walkCell      : Option Nat
  walkCount     : Nat
  walkHeader    : Option (List Byte)
deriving DecidableEq, Repr

/-- The phases of a write context (R41). -/
inductive CtxPhase where
  | preRead
  | reserve
  | imageWrite
  | headerWrite
  | awaitFrontier
  | forwarded
  | answering
deriving DecidableEq, Repr

/-- The own access of a write context: none, waiting in the arbiter, or issued under an own tag (R41). -/
inductive CtxAccess where
  | none
  | waiting
  | issued (tag : OwnTag)
deriving DecidableEq, Repr

/-- What a GRANTED reservation gives the record of a context (R12, R46). -/
structure Reserved where
  seq   : Seq
  cell  : Nat
  tag   : JournalTag
  epoch : Epoch
deriving DecidableEq, Repr

/-- A write context in use (R41). Its host tag and its line are those of its host write. -/
structure Context where
  req       : HostRequest
  ring      : Option RingId
  phase     : CtxPhase
  image     : Option (List Byte)
  reserved  : Option Reserved
  retryUsed : Bool
  access    : CtxAccess
  stopped   : Bool
deriving DecidableEq, Repr

/-- A durability report on its way to its ring controller (R50, R60). -/
structure Report where
  ring : RingId
  seq  : Seq
deriving DecidableEq, Repr

/-- Why an entry of the hold queue is held (R74). -/
inductive HoldReason where
  | line
  | context
  | mark
  | close
deriving DecidableEq, Repr

/-- An entry of the hold queue (R74). Its host tag, kind and line are those of its request. -/
structure HoldEntry where
  req    : HostRequest
  ring   : Option RingId
  reason : HoldReason
deriving DecidableEq, Repr

/-- The status of a response to the host (R153). -/
inductive HostStatus where
  | okay
  | error
  | retry
deriving DecidableEq, Repr

/-- A response to the host (R153). -/
structure HostResponse where
  tag    : HostTag
  status : HostStatus
  data   : List Byte
deriving DecidableEq, Repr

/-- An outstanding entry of the outstanding-tag table (R157). -/
structure TagEntry where
  kind     : ReqKind
  counted  : Option RingId
  atMemory : Bool
deriving DecidableEq, Repr

/-- Where a request decided for forwarding waits for a place in the forward buffer (R159). -/
inductive Source where
  | classifier
  | context (ctx : CtxId)
  | ring (ring : RingId)
deriving DecidableEq, Repr

/-- A request decided for forwarding that waits at its source (R159). -/
structure Decided where
  source : Source
  req    : HostRequest
deriving DecidableEq, Repr

/-- The owner of an own access, and which of its accesses it is (10 section 10.4). -/
inductive Owner where
  | preRead (ctx : CtxId)
  | imageWrite (ctx : CtxId)
  | headerWrite (ctx : CtxId)
  | checkpointMark (ring : RingId)
  | rollbackMark (ring : RingId)
  | freshMark (ring : RingId)
  | restoreHeader (ring : RingId)
  | restoreImage (ring : RingId)
  | restoreWrite (ring : RingId)
  | steerHeader (ring : RingId) (tag : HostTag)
  | steerImage (ring : RingId) (tag : HostTag)
  | searchHeader (ring : RingId) (cell : Nat)
  | walkHeader (ring : RingId)
  | walkImage (ring : RingId)
deriving DecidableEq, Repr

/-- An own access waiting in its class (R162). `data` are the bytes of a write, with all byte enables set. -/
structure Access where
  owner : Owner
  kind  : ReqKind
  addr  : Addr
  size  : BitVec 3
  data  : List Byte
deriving DecidableEq, Repr

/-- The condition of an own tag (R161). The owner is absent for an orphan; the timer counts the µs left. -/
inductive OwnTagState where
  | free
  | inUse (owner : Option Owner) (timer : Nat)
  | quarantined
deriving DecidableEq, Repr

/-- The classes of the arbiter (R162). -/
inductive ArbClass where
  | host
  | journal
  | service
deriving DecidableEq, Repr

/-- A request at the memory port (R160, R161): memory tags 0 to 31 are host tags, 32 to 63 own tags. -/
structure MemRequest where
  tag     : Fin 64
  kind    : ReqKind
  addr    : Addr
  size    : BitVec 3
  data    : List Byte
  enables : List Bool
deriving DecidableEq, Repr

/-- What an event reports (R176). -/
inductive EventBody where
  | opened (ring : RingId) (mode : OpenMode) (epoch : Epoch) (live : Nat)
  | openFailed (ring : RingId) (cause : Cause)
  | checkpointed (ring : RingId) (reason : CkptReason) (epoch : Epoch) (released : Nat)
  | rolledBack (ring : RingId) (epoch : Epoch) (restored : Nat)
  | broken (ring : RingId) (cause : Cause) (live : Nat)
  | closed (ring : RingId) (cause : CloseCause)
  | fillHigh (ring : RingId) (live : Nat)
  | ringFull (ring : RingId)
  | scoreSuspect (ring : RingId) (score : Nat)
  | protocol (tag : HostTag)
deriving DecidableEq, Repr

/-- An event record in the queue (R175, R176). -/
structure Event where
  number : BitVec 8
  body   : EventBody
deriving DecidableEq, Repr

/-- A command slot (11 section 11.2). -/
inductive Slot where
  | empty
  | loaded (record : List Byte)
  | executing (record : List Byte)
  | answered (response : List Byte)
deriving DecidableEq, Repr

/-- A read frame in progress, with what was taken when its kind byte was complete (R167): the record; for a RESPONSE
whether the slot was ANSWERED, for an EVENT whether the queue held one, for a STATUS the three flags reported set. -/
inductive Frame where
  | response (slot : SlotId) (record : List Byte) (held : Bool)
  | status (record : List Byte) (rejected0 rejected1 overrun : Bool)
  | event (record : List Byte) (held : Bool)
deriving DecidableEq, Repr

/-- Why the machine stops: never. The bridge reports every failure by an answer, an event or a ring state, and no
command of it ends in a fault (log 26). -/
inductive Fault where
deriving DecidableEq, Repr

/-- Why a command has no meaning. -/
inductive Refusal where
  /-- Raised by an arm of exec that has no meaning yet; no arm raises it. Safe: the machine stops. -/
  | notModelled (mnemonic : String)
deriving DecidableEq, Repr

/-- The bridge. -/
structure State where
  /-- RESET_N is low (R165, R179). -/
  inReset     : Bool
  /-- The level of CKPT at the last sample, and before the first sample its level since the reset ended (R165). -/
  ckptLevel   : Bool
  /-- CKPT has been sampled since the device reset (R165). -/
  ckptSampled : Bool
  mode        : Mode
  regions     : Vector Region 12
  rings       : Vector Ring 4
  contexts    : Vector (Option Context) 8
  reports     : List Report
  hold        : List HoldEntry
  passAsked   : Bool
  passStopped : Bool
  tags        : Vector (Option TagEntry) 32
  ready       : List HostResponse
  forward     : List HostRequest
  decided     : List Decided
  ownTags     : Vector OwnTagState 32
  journal     : List Access
  service     : List Access
  lastClass   : ArbClass
  slots       : Vector Slot 2
  loadOrder   : List SlotId
  rejected    : Vector Bool 2
  events      : List Event
  overrun     : Bool
  eventNumber : BitVec 8
  frame       : Option Frame
  frameWait   : Bool
  /-- The model's own: the last response returned at the host port (log 17). -/
  hostOut     : Option HostResponse
  /-- The model's own: the last request issued at the memory port (log 17). -/
  memOut      : Option MemRequest
  /-- The model's own: the bytes driven on SDO in the last frame that ended, the zero of the kind byte first (log 17). -/
  sdo         : List Byte
  /-- The model's own: choices of an open order given from outside (log 5). -/
  script      : List Nat
  /-- The model's own: how many choices have been taken from Config.freeChoice (log 5). -/
  drawn       : Nat
  /-- The commands that wait, first in first out. -/
  pending     : List Instr
deriving DecidableEq, Repr

/-- A region entry after a device reset (R29). -/
def Region.reset : Region := { enable := false, base := 0, mask := 0, cls := .pass, ring := 0 }

/-- A ring's configuration after a device reset (R4). -/
def RingConfig.reset : RingConfig :=
  { base := 0, cells := 0, tag := 0, policy := .refuse, highWater := 0, interval := 0, pin := false }

/-- A ring controller after a device reset (R23). -/
def Ring.reset : Ring :=
  { config := .reset, phase := .closed, release := 0, produce := 0, live := 0, nextSeq := 0, epoch := 0, frontier := 0,
    outstanding := [], touched := [], complete := false, score := 0, lastCause := .none, highArmed := false,
    fullArmed := false, inFlight := 0, timer := none, reason := none, markRetry := false, mark := none, cursor := none,
    expected := none, restored := 0, restoreRetry := false, restoreHeader := none, restoreImage := none, steered := [],
    openMode := none, scanPart := none, searchCell := 0, scanReads := 0, newest := none, walkCell := none,
    walkCount := 0, walkHeader := none }

/-- The bridge right after a device reset: every block as R23, R25, R29, R63, R86, R164 and R179 leave it, RESET_N
high again and SSEL_N high (log 3), CKPT low and not yet sampled (log 15), and no command waiting. -/
def State.reset : State :=
  { inReset := false, ckptLevel := false, ckptSampled := false, mode := .config,
    regions := Vector.replicate 12 .reset, rings := Vector.replicate 4 .reset,
    contexts := Vector.replicate 8 none, reports := [], hold := [], passAsked := false, passStopped := false,
    tags := Vector.replicate 32 none, ready := [], forward := [], decided := [],
    ownTags := Vector.replicate 32 .free, journal := [], service := [], lastClass := .service,
    slots := Vector.replicate 2 .empty, loadOrder := [], rejected := Vector.replicate 2 false, events := [],
    overrun := false, eventNumber := 0, frame := none, frameWait := false, hostOut := none, memOut := none, sdo := [],
    script := [], drawn := 0, pending := [] }

end Sys2Proof.Machine
end

