-- ==== Sys2Proof/Machine/Operands.lean ====
section
/-! DEFINITION. The layouts of chapter 12: byte order, the check, record headers, codes, command records, response,
status and event records; and the address arithmetic of lines, sizes and cells. -/

namespace Sys2Proof

/-- The line of an address: its low 6 bits cleared (spec/00_scope.md section 6). -/
def lineOf (a : Addr) : Addr := a &&& ~~~(0x3F : Addr)

/-- The bytes of a legal size code: 8, 16, 32, 64 (R153). -/
def sizeBytes (code : BitVec 3) : Nat := 8 <<< code.toNat

/-- The line of a host request. -/
def HostRequest.line (q : HostRequest) : Addr := lineOf q.addr

/-- A legal request: its size code is 0 to 3 and its address is a multiple of its size (R156). -/
def HostRequest.legal (q : HostRequest) : Bool :=
  q.size.toNat < 4 && q.addr.toNat % sizeBytes q.size == 0

end Sys2Proof

namespace Sys2Proof.Machine

/-! ### Byte order (spec/00_scope.md section 6) -/

/-- The number a run of bytes spells, least significant byte first. -/
def leNat : List Byte → Nat
  | [] => 0
  | b :: bs => b.toNat + 256 * leNat bs

/-- The `n` bytes of a number, least significant byte first. -/
def leBytes : Nat → Nat → List Byte
  | 0, _ => []
  | n + 1, v => BitVec.ofNat 8 v :: leBytes n (v / 256)

/-- The number in the `n` bytes at offset `off` of a record. -/
def fieldAt (bs : List Byte) (off n : Nat) : Nat := leNat ((bs.drop off).take n)

/-- The byte at offset `off` of a record. -/
def byteAt (bs : List Byte) (off : Nat) : Nat := (bs.getD off 0).toNat

/-- `v` in the `w` bits from bit `off` of a packed group (R183). -/
def packed (off w v : Nat) : Nat := (v % 2 ^ w) <<< off

/-- A yes or no field: 1 for yes, 0 for no (12 section 12.2). -/
def flagBit (b : Bool) : Nat := if b then 1 else 0

/-- A record of exactly `n` bytes: the bytes given, then zeros. -/
def padTo (n : Nat) (bs : List Byte) : List Byte := (bs ++ List.replicate n 0).take n

/-! ### Cells (R1) -/

/-- The address of a cell of a ring: base + 128 × n (R1). -/
def RingConfig.cellAddr (c : RingConfig) (cell : Nat) : Addr := c.base + BitVec.ofNat 40 (128 * cell)

/-- The address of a cell's image, at cell offset 64 (R1). -/
def RingConfig.imageAddr (c : RingConfig) (cell : Nat) : Addr := c.cellAddr cell + 64

/-- The cell after a cell; cell arithmetic wraps at the capacity (R1, R10). -/
def RingConfig.nextCell (c : RingConfig) (cell : Nat) : Nat := (cell + 1) % c.cells

/-- The cell before a cell, modulo the capacity (spec/00_scope.md section 6). -/
def RingConfig.prevCell (c : RingConfig) (cell : Nat) : Nat := (cell + c.cells - 1) % c.cells

/-! ### The check (R181) -/

/-- The bits of a run of bytes, each byte least significant bit first (R181). -/
def bitsOf (bs : List Byte) : List Bool := bs.flatMap fun b => (List.range 8).map b.getLsbD

/-- The reflected CRC-32 register run over input bits; EDB88320h is the generator 04C11DB7h reflected (R181). -/
def crcRun : List Bool → Check → Check
  | [], c => c
  | b :: bs, c => if c.getLsbD 0 != b then crcRun bs ((c >>> 1) ^^^ 0xEDB88320) else crcRun bs (c >>> 1)

/-- The CRC-32 of R181: the register starts at FFFFFFFFh and the result is XORed with FFFFFFFFh. -/
def crc32 (bs : List Byte) : Check := crcRun (bitsOf bs) 0xFFFFFFFF ^^^ 0xFFFFFFFF

/-! ### Record headers (R180) -/

/-- The kind code of a PRE-IMAGE record (R180). -/
def kindPreImage : Nat := 0x7E01

/-- The kind code of an EPOCH-MARK record (R180). -/
def kindMark : Nat := 0x7E02

/-- A record header read back by the layout of R180. -/
structure Header where
  kind  : Nat
  ring  : Nat
  tag   : JournalTag
  epoch : Epoch
  line  : Addr
  seq   : Seq
  check : Check
deriving DecidableEq, Repr

/-- The fields of 32 header bytes that a reader tests (R180). -/
def parseHeader (bs : List Byte) : Header :=
  { kind := fieldAt bs 0 2, ring := byteAt bs 2, tag := BitVec.ofNat 16 (fieldAt bs 4 2),
    epoch := BitVec.ofNat 32 (fieldAt bs 6 4), line := BitVec.ofNat 40 (fieldAt bs 10 5),
    seq := BitVec.ofNat 64 (fieldAt bs 16 8), check := BitVec.ofNat 32 (fieldAt bs 28 4) }

/-- The check of a record read back: over header bytes 0 to 27, then the image bytes if it has any (R181). -/
def checkOf (header image : List Byte) : Check := crc32 (header.take 28 ++ image)

/-- Header bytes 0 to 27 (R180). -/
def headerBody (kind : Nat) (ring : RingId) (reason : Nat) (tag : JournalTag) (epoch : Epoch) (line : Addr) (seq : Seq)
    (released : Nat) : List Byte :=
  leBytes 2 kind ++ leBytes 1 ring.val ++ leBytes 1 reason ++ leBytes 2 tag.toNat ++ leBytes 4 epoch.toNat ++
    leBytes 5 line.toNat ++ leBytes 1 0 ++ leBytes 8 seq.toNat ++ leBytes 4 released

/-- A whole header: bytes 0 to 27, then the check over them and the image (R181). -/
def sealHeader (body image : List Byte) : List Byte := body ++ leBytes 4 (crc32 (body ++ image)).toNat

/-- The header of a PRE-IMAGE record (R5, R50). -/
def preImageHeader (ring : RingId) (v : Reserved) (line : Addr) (image : List Byte) : List Byte :=
  sealHeader (headerBody kindPreImage ring 0 v.tag v.epoch line v.seq 0) image

/-- The reason code of a mark (12 section 12.2). -/
def MarkReason.code : MarkReason → Nat
  | .fresh => 1
  | .checkpoint .command => 2
  | .checkpoint .timer => 3
  | .checkpoint .pin => 4
  | .rollback => 5

/-- The header of an EPOCH-MARK record (R6). -/
def markHeader (ring : RingId) (tag : JournalTag) (m : Mark) : List Byte :=
  sealHeader (headerBody kindMark ring m.reason.code tag m.epoch 0 m.seq m.released) []

/-! ### Codes (12 section 12.2) -/

/-- The state code and the sub-phase of a phase (R21, R183). -/
def Phase.state : Phase → RingState
  | .closed => .closed
  | .openingDrain | .openingScan | .openingMark => .opening
  | .active => .active
  | .checkpointingDrain | .checkpointingMark => .checkpointing
  | .rollingDrain | .rollingRestore | .rollingMark => .rolling
  | .closingDrain => .closing
  | .broken => .broken

/-- The sub-phase of a phase; NONE in CLOSED, ACTIVE and BROKEN (R21). -/
def Phase.sub : Phase → SubPhase
  | .closed | .active | .broken => .none
  | .openingDrain | .checkpointingDrain | .rollingDrain | .closingDrain => .drain
  | .openingScan => .scan
  | .rollingRestore => .restore
  | .openingMark | .checkpointingMark | .rollingMark => .mark

def RingState.code : RingState → Nat
  | .closed => 0
  | .opening => 1
  | .active => 2
  | .checkpointing => 3
  | .rolling => 4
  | .closing => 5
  | .broken => 6

def SubPhase.code : SubPhase → Nat
  | .none => 0
  | .drain => 1
  | .scan => 2
  | .restore => 3
  | .mark => 4

def Cause.code : Cause → Nat
  | .none => 0
  | .full => 1
  | .recordFailed => 2
  | .markFailed => 3
  | .restoreFailed => 4
  | .checksum => 5
  | .score => 6
  | .sequence => 7
  | .noJournal => 8

def OpenMode.code : OpenMode → Nat
  | .fresh => 1
  | .recover => 2

def CloseCause.code : CloseCause → Nat
  | .command => 1
  | .reset => 2

def Mode.code : Mode → Nat
  | .config => 0
  | .run => 1

def RegionClass.code : RegionClass → Nat
  | .pass => 0
  | .journal => 1
  | .guard => 2

/-- The status of an answer (R171). -/
inductive Status where
  | done
  | started
  | busy
  | badState
  | badValue
  | notConfig
  | notRun
  | ringsOpen
  | scoreHigh
  | unknown
  | notReady
deriving DecidableEq, Repr

def Status.code : Status → Nat
  | .done => 0x01
  | .started => 0x02
  | .busy => 0x03
  | .badState => 0x04
  | .badValue => 0x05
  | .notConfig => 0x06
  | .notRun => 0x07
  | .ringsOpen => 0x08
  | .scoreHigh => 0x09
  | .unknown => 0x0A
  | .notReady => 0x0B

/-- A yes or no parameter byte (12 section 12.2). -/
def flagOf : Nat → Option Bool
  | 0 => some false
  | 1 => some true
  | _ => none

/-- A device mode parameter byte. -/
def modeOf : Nat → Option Mode
  | 0 => some .config
  | 1 => some .run
  | _ => none

/-- A region class parameter byte. -/
def classOf : Nat → Option RegionClass
  | 0 => some .pass
  | 1 => some .journal
  | 2 => some .guard
  | _ => none

/-- A full policy parameter byte. -/
def policyOf : Nat → Option FullPolicy
  | 0 => some .refuse
  | 1 => some .breaks
  | _ => none

/-- An open mode parameter byte (R182). -/
def openModeOf : Nat → Option OpenMode
  | 1 => some .fresh
  | 2 => some .recover
  | _ => none

/-- An interval code parameter byte (R2, R91). -/
def intervalOf (n : Nat) : Option (Fin 6) := if h : n < 6 then some ⟨n, h⟩ else none

/-! ### Frame kinds (R166) -/

/-- What a frame does (R166). -/
inductive FrameKind where
  | command (slot : SlotId)
  | response (slot : SlotId)
  | status
  | event
deriving DecidableEq, Repr

/-- The frame that a kind byte names; none for every byte not in the table of R166. -/
def frameKindOf (kind : Byte) : Option FrameKind :=
  match kind.toNat with
  | 0x01 => some (.command 0)
  | 0x02 => some (.command 1)
  | 0x11 => some (.response 0)
  | 0x12 => some (.response 1)
  | 0x20 => some .status
  | 0x30 => some .event
  | _ => none

/-- The kind bytes that R166 defines. -/
def kindDefined (kind : Byte) : Bool := (frameKindOf kind).isSome

/-- The bits of a byte as they pass on the management port, most significant bit first (R166). -/
def portBits (b : Byte) : List Bool := (List.range 8).map b.getMsbD

/-- The byte that eight bits of the management port make, most significant bit first (R166). -/
def portByte (bits : List Bool) : Byte := BitVec.ofNat 8 (bits.foldl (fun n b => 2 * n + b.toNat) 0)

/-- The whole bytes among the bits of a frame; the bits of a byte left incomplete are discarded (R166). -/
def portBytes : List Bool → List Byte
  | b7 :: b6 :: b5 :: b4 :: b3 :: b2 :: b1 :: b0 :: rest => portByte [b7, b6, b5, b4, b3, b2, b1, b0] :: portBytes rest
  | _ => []

/-! ### Command records (R182) -/

/-- The code of an executed command (12 section 12.2). -/
inductive CommandCode where
  | setMode
  | writeRegion
  | readRegion
  | configureRing
  | readRing
  | setInterval
  | openRing
  | checkpoint
  | rollback
  | closeRing
  | resetRing
deriving DecidableEq, Repr

/-- The command a code byte names; none for every other code (R171). -/
def commandOf : Nat → Option CommandCode
  | 0x01 => some .setMode
  | 0x02 => some .writeRegion
  | 0x03 => some .readRegion
  | 0x04 => some .configureRing
  | 0x05 => some .readRing
  | 0x06 => some .setInterval
  | 0x07 => some .openRing
  | 0x08 => some .checkpoint
  | 0x09 => some .rollback
  | 0x0A => some .closeRing
  | 0x0B => some .resetRing
  | _ => none

/-- The ring field of a command record, absent when it is above 3 (R171). -/
def ringOf (rec : List Byte) : Option RingId := if h : byteAt rec 1 < 4 then some ⟨byteAt rec 1, h⟩ else none

/-- The region index of a command record, absent when it is above 11 (R30, R31). -/
def regionIndexOf (rec : List Byte) : Option (Fin 12) :=
  if h : byteAt rec 4 < 12 then some ⟨byteAt rec 4, h⟩ else none

/-- A 40-bit address parameter. -/
def addrAt (rec : List Byte) (off : Nat) : Addr := BitVec.ofNat 40 (fieldAt rec off 5)

/-- The low 12 bits of an address are zero (R2, R29). -/
def pageAligned (a : Addr) : Bool := a.toNat % 4096 == 0

/-- The region a WRITE-REGION record gives, if no field of it is out of range (R30). -/
def regionOf (rec : List Byte) (ring : RingId) : Option Region := do
  let enable ← flagOf (byteAt rec 5)
  let cls ← classOf (byteAt rec 6)
  let base := addrAt rec 8
  let mask := addrAt rec 16
  if pageAligned base && pageAligned mask then some { enable, base, mask, cls, ring } else none

/-- The capacity is 0, or a multiple of 16 from 16 to 262,144 (R2). -/
def capacityLegal (cells : Nat) : Bool := cells == 0 || (16 ≤ cells && cells ≤ 262144 && cells % 16 == 0)

/-- The high-water level fits the capacity (R3). -/
def highWaterLegal (cells highWater : Nat) : Bool := highWater == 0 || (highWater < cells)

/-- The configuration a CONFIGURE-RING record gives, if it passes the checks of R3. -/
def configOf (rec : List Byte) : Option RingConfig := do
  let cells := fieldAt rec 4 4
  let base := addrAt rec 8
  let policy ← policyOf (byteAt rec 13)
  let interval ← intervalOf (byteAt rec 14)
  let pin ← flagOf (byteAt rec 15)
  let highWater := fieldAt rec 20 4
  if pageAligned base && capacityLegal cells && (cells == 0 || base.toNat + 128 * cells ≤ 2 ^ 40)
      && highWaterLegal cells highWater then
    some { base, cells, tag := BitVec.ofNat 16 (fieldAt rec 16 2), policy, highWater, interval, pin }
  else none

/-- A response record: the echoes of code and ring field, the status, a zero, and 28 result bytes (R171, R182). -/
def responseRecord (code ring : Nat) (status : Status) (result : List Byte) : List Byte :=
  leBytes 1 code ++ leBytes 1 ring ++ leBytes 1 status.code ++ leBytes 1 0 ++ padTo 28 result

/-- The record of a RESPONSE read that finds no answer (R172, R182). -/
def notReadyRecord : List Byte := responseRecord 0 0 .notReady []

/-- The result of READ-REGION answered DONE, bytes 4 to 20 of the response (R182). -/
def regionResult (index : Fin 12) (g : Region) : List Byte :=
  leBytes 1 index.val ++ leBytes 1 (flagBit g.enable) ++ leBytes 1 g.cls.code ++ leBytes 1 g.ring.val ++
    leBytes 5 g.base.toNat ++ leBytes 3 0 ++ leBytes 5 g.mask.toNat

/-- The newest sequence number of a ring less its frontier, 0 while the epoch is 0 (R183). -/
def Ring.lag (r : Ring) : Nat := if r.epoch = 0 then 0 else (r.nextSeq - 1 - r.frontier).toNat

/-- The timer's remaining time in whole milliseconds, rounded up, and 0 when stopped (R21, R183). A timer whose
expiry has not yet been taken reads as 1 (DESIGN CHOICE, log 19). -/
def Ring.timerMs (r : Ring) : Nat :=
  match r.timer with
  | none => 0
  | some t => max 1 ((t + 999) / 1000)

/-- The ring status record, bytes 4 to 31 of the response to READ-RING (R183). -/
def ringResult (r : Ring) : List Byte :=
  leBytes 4 r.epoch.toNat ++ leBytes 8 r.nextSeq.toNat ++
  leBytes 3 (packed 0 18 r.lag + packed 18 6 r.inFlight) ++
  leBytes 3 (packed 0 18 r.release + packed 18 3 r.phase.state.code + packed 21 3 r.phase.sub.code) ++
  leBytes 3 (packed 0 19 r.live + packed 19 3 r.lastCause.code + packed 22 1 (flagBit r.complete)) ++
  leBytes 2 (packed 0 15 (r.config.cells / 16) + packed 15 1 (flagBit r.highArmed)) ++
  leBytes 2 (packed 0 13 r.timerMs + packed 13 1 (flagBit r.fullArmed)) ++
  leBytes 2 (packed 0 9 r.touched.length) ++ leBytes 1 r.score

/-! ### Events (R176, R184) -/

def EventBody.kindCode : EventBody → Nat
  | .opened .. => 1
  | .openFailed .. => 2
  | .checkpointed .. => 3
  | .rolledBack .. => 4
  | .broken .. => 5
  | .closed .. => 6
  | .fillHigh .. => 7
  | .ringFull .. => 8
  | .scoreSuspect .. => 9
  | .protocol .. => 0x0A

/-- The ring of an event, FFh for PROTOCOL (R176). -/
def EventBody.ringField : EventBody → Nat
  | .opened r .. | .openFailed r .. | .checkpointed r .. | .rolledBack r .. | .broken r .. | .closed r .. => r.val
  | .fillHigh r .. | .ringFull r | .scoreSuspect r .. => r.val
  | .protocol _ => 0xFF

/-- The cause-or-reason field of an event (R176). -/
def EventBody.causeField : EventBody → Nat
  | .opened _ m _ _ => m.code
  | .openFailed _ c => c.code
  | .checkpointed _ reason _ _ => (MarkReason.checkpoint reason).code
  | .broken _ c _ => c.code
  | .closed _ c => c.code
  | .rolledBack .. | .fillHigh .. | .ringFull .. | .scoreSuspect .. | .protocol .. => 0

/-- The epoch field of an event (R176). -/
def EventBody.epochField : EventBody → Nat
  | .opened _ _ e _ | .checkpointed _ _ e _ | .rolledBack _ e _ => e.toNat
  | .openFailed .. | .broken .. | .closed .. | .fillHigh .. | .ringFull .. | .scoreSuspect .. | .protocol .. => 0

/-- The count field of an event (R176). -/
def EventBody.countField : EventBody → Nat
  | .opened _ _ _ n | .checkpointed _ _ _ n | .rolledBack _ _ n | .broken _ _ n | .fillHigh _ n => n
  | .scoreSuspect _ n => n
  | .openFailed .. | .closed .. | .ringFull .. | .protocol .. => 0

/-- The host tag field of an event, FFh when absent (R176). -/
def EventBody.tagField : EventBody → Nat
  | .protocol t => t.val
  | .opened .. | .openFailed .. | .checkpointed .. | .rolledBack .. | .broken .. | .closed .. => 0xFF
  | .fillHigh .. | .ringFull .. | .scoreSuspect .. => 0xFF

/-- The 16 bytes of an event record (R184). -/
def eventRecord (e : Event) : List Byte :=
  leBytes 1 e.number.toNat ++ leBytes 1 e.body.kindCode ++ leBytes 1 e.body.ringField ++ leBytes 1 e.body.causeField ++
    leBytes 4 e.body.epochField ++ leBytes 4 e.body.countField ++ leBytes 1 e.body.tagField ++ leBytes 3 0

/-- The record of an EVENT read on an empty queue (R177, R184). -/
def noEventRecord : List Byte :=
  leBytes 2 0 ++ leBytes 1 0xFF ++ leBytes 1 0 ++ leBytes 8 0 ++ leBytes 1 0xFF ++ leBytes 3 0

/-- The state code of a slot (12 section 12.2). -/
def Slot.code : Slot → Nat
  | .empty => 0
  | .loaded _ => 1
  | .executing _ => 2
  | .answered _ => 3

/-- The 16 bytes of the status record (R173, R184). -/
def statusRecord (s : State) : List Byte :=
  leBytes 1 s.mode.code ++ leBytes 1 (s.slots.get 0).code ++ leBytes 1 (s.slots.get 1).code ++
    leBytes 1 (flagBit (s.rejected.get 0) + 2 * flagBit (s.rejected.get 1)) ++ leBytes 1 s.events.length ++
    leBytes 1 (flagBit s.overrun) ++ s.rings.toList.flatMap (fun r => leBytes 1 r.phase.state.code) ++
    leBytes 1 s.eventNumber.toNat ++ leBytes 5 0

end Sys2Proof.Machine
end

