-- ==== Sys2Proof/Decode.lean ====
section
/-! DEFINITION. The command a word spells by the bits of spec/opcode_table.json, and the command that the bytes of a frame on
the management port spell. -/

namespace Sys2Proof

/-- No row of spec/opcode_table.json gives bits (every row's "fields" is empty and none has "fixed"), so no word
spells a command. The bytes the spec does give are read by `commandOfFrame` (R166) and, once in a slot, by
Machine/Operands.lean (R182). -/
def decodeTableWord (_nbits _w : Nat) : Option Instr := none

/-- The command that a frame stands for, by the bytes that pass between the fall and the rise of SSEL_N: the kind byte
decides, and the other bytes are the body (R166). In a read frame the bytes received are ignored, and only their number
counts. A frame that ends before its kind byte is complete has no effect and is no command. -/
def commandOfFrame : List Byte → Option Instr
  | [] => none
  | kind :: body => some (match Machine.frameKindOf kind with
    | some (.command i) => .commandFrame i body
    | some (.response i) => .responseRead i (.whole body.length)
    | some .status => .statusRead (.whole body.length)
    | some .event => .eventRead (.whole body.length)
    | none => .unknownFrameKind kind body.length)

end Sys2Proof
end

