-- ==== Sys2Proof/Machine/Ops.lean ====
section
/-! DEFINITION. The named operations over the bridge's tables and queues: one home for each read and each write. -/

namespace Sys2Proof.Machine

/-- A fixed table with every entry changed by `f`. -/
def mapVec {α β : Type} {n : Nat} (f : α → β) (v : Vector α n) : Vector β n := ⟨(v.toList.map f).toArray, by simp⟩

/-! ### Reading and writing the tables -/

namespace State

/-- The state of ring controller `r`. -/
def ring (s : State) (r : RingId) : Ring := s.rings.get r

def setRing (s : State) (r : RingId) (x : Ring) : State := { s with rings := s.rings.set r x }

/-- Ring `r` changed by `f`, everything else unchanged. -/
def modRing (s : State) (r : RingId) (f : Ring → Ring) : State := s.setRing r (f (s.ring r))

/-- Write context `c`: none when it is free (R41). -/
def ctx (s : State) (c : CtxId) : Option Context := s.contexts.get c

def setCtx (s : State) (c : CtxId) (x : Option Context) : State := { s with contexts := s.contexts.set c x }

/-- The outstanding-tag entry of a host tag: none when it is free (R157). -/
def tagEntry (s : State) (t : HostTag) : Option TagEntry := s.tags.get t

def setTag (s : State) (t : HostTag) (x : Option TagEntry) : State := { s with tags := s.tags.set t x }

/-- The condition of own tag `32 + t` (R161). -/
def ownTag (s : State) (t : OwnTag) : OwnTagState := s.ownTags.get t

def setOwnTag (s : State) (t : OwnTag) (x : OwnTagState) : State := { s with ownTags := s.ownTags.set t x }

def slot (s : State) (i : SlotId) : Slot := s.slots.get i

def setSlot (s : State) (i : SlotId) (x : Slot) : State := { s with slots := s.slots.set i x }

def setRejected (s : State) (i : SlotId) (b : Bool) : State := { s with rejected := s.rejected.set i b }

def region (s : State) (i : Fin 12) : Region := s.regions.get i

def setRegion (s : State) (i : Fin 12) (g : Region) : State := { s with regions := s.regions.set i g }

/-! ### Events, responses, passes -/

/-- The event queue takes a generated event (R175): it is numbered, and it joins the tail or is dropped. -/
def raise (s : State) (b : EventBody) : State :=
  if s.events.length < Config.eventPlaces then
    { s with events := s.events ++ [⟨s.eventNumber, b⟩], eventNumber := s.eventNumber + 1 }
  else { s with eventNumber := s.eventNumber + 1, overrun := true }

/-- A response becomes ready at the host port interface (R158). -/
def respond (s : State) (t : HostTag) (st : HostStatus) (data : List Byte) : State :=
  { s with ready := s.ready ++ [⟨t, st, data⟩] }

/-- The hold queue is asked for a pass; a pass asked for on an empty queue is complete at once (R80). A pass asked for stays
asked for when R82 empties the queue before it is made (DESIGN CHOICE, log 29). -/
def askPass (s : State) : State := { s with passAsked := s.passAsked || !s.hold.isEmpty }

/-! ### Orders the spec leaves open (log 5) -/

/-- Takes the entries of `xs` one by one, each by the next choice: from `script` while it lasts, then from the free
value Config.freeChoice. A single entry needs no choice. `fuel` bounds the entries taken. -/
def arrange {α : Type} : (fuel : Nat) → List Nat → Nat → List α → List α × List Nat × Nat
  | 0, script, drawn, xs => (xs, script, drawn)
  | _ + 1, script, drawn, [] => ([], script, drawn)
  | _ + 1, script, drawn, [x] => ([x], script, drawn)
  | n + 1, c :: script, drawn, x :: y :: zs =>
    let i := c % (zs.length + 2)
    let rest := arrange n script drawn ((x :: y :: zs).eraseIdx i)
    ((x :: y :: zs).getD i x :: rest.1, rest.2)
  | n + 1, [], drawn, x :: y :: zs =>
    let i := Config.freeChoice drawn % (zs.length + 2)
    let rest := arrange n [] (drawn + 1) ((x :: y :: zs).eraseIdx i)
    ((x :: y :: zs).getD i x :: rest.1, rest.2)

/-- `xs` in the order the free choices give. -/
def freeOrder {α : Type} (s : State) (xs : List α) : List α := (arrange xs.length s.script s.drawn xs).1

/-- The state once the choices for `xs` have been taken. -/
def afterOrder {α : Type} (s : State) (xs : List α) : State :=
  let a := arrange xs.length s.script s.drawn xs
  { s with script := a.2.1, drawn := a.2.2 }

/-! ### Forwarding (R159) -/

/-- A request is decided for forwarding: it joins the forward buffer at once if there is room, and waits at its
source otherwise (R159). -/
def decide (s : State) (d : Decided) : State :=
  if s.forward.length < Config.forwardPlaces then { s with forward := s.forward ++ [d.req] }
  else { s with decided := s.decided ++ [d] }

/-- Requests decided in one act, in a free order (R159, log 5). -/
def decideAll (s : State) (ds : List Decided) : State := (s.freeOrder ds).foldl decide (s.afterOrder ds)

/-- The forward buffer has gained a place by the issue of its head: the longest-waiting decided request joins it, and
with none waiting the hold queue is asked for a pass if a pass has stopped at the buffer (R159, R80). That the note of a
stop outlives the entry at which the pass stopped is DESIGN CHOICE (log 29). -/
def fillRoom (s : State) : State :=
  match s.decided with
  | d :: ds => { s with forward := s.forward ++ [d.req], decided := ds }
  | [] => if s.passStopped then s.askPass else s

/-! ### Own accesses (R161, R162) -/

/-- An own access is requested into the JOURNAL class (R162). -/
def requestJournal (s : State) (a : Access) : State := { s with journal := s.journal ++ [a] }

/-- An own access is requested into the SERVICE class (R162). -/
def requestService (s : State) (a : Access) : State := { s with service := s.service ++ [a] }

/-- The own accesses whose owner satisfies `p` and that wait in the arbiter are withdrawn (R162). -/
def withdraw (s : State) (p : Owner → Bool) : State :=
  { s with journal := s.journal.filter fun a => !p a.owner, service := s.service.filter fun a => !p a.owner }

/-- The own accesses whose owner satisfies `p` and that have been issued become orphans (R62, R161). -/
def orphan (s : State) (p : Owner → Bool) : State :=
  { s with
    ownTags := mapVec (fun
      | .inUse (some o) t => if p o then .inUse none t else .inUse (some o) t
      | x => x) s.ownTags }

/-- The lowest-numbered free own tag (R161). -/
def freeOwnTag (s : State) : Option OwnTag := (List.finRange 32).find? fun t => s.ownTag t == .free

/-- A free write context: the one of lowest index (log 6; R41 says that the choice has no visible effect). -/
def freeCtx (s : State) : Option CtxId := (List.finRange 8).find? fun c => (s.ctx c).isNone

/-! ### Time -/

/-- `n` ticks of the time base: running checkpoint timers and own-access timers count down to 0 (R89, R163), and each
tick samples CKPT, which keeps its level meanwhile (R165, log 15). -/
def passTime (s : State) (n : Nat) : State :=
  { s with
    ckptSampled := s.ckptSampled || n != 0
    rings := mapVec (fun r => { r with timer := r.timer.map (· - n) }) s.rings
    ownTags := mapVec (fun
      | .inUse o t => .inUse o (t - n)
      | x => x) s.ownTags }

end State

/-! ### Owners of own accesses -/

/-- The context an access belongs to, if its owner is a context. -/
def Owner.ctx? : Owner → Option CtxId
  | .preRead c | .imageWrite c | .headerWrite c => some c
  | .checkpointMark _ | .rollbackMark _ | .freshMark _ | .restoreHeader _ | .restoreImage _ | .restoreWrite _ => none
  | .steerHeader .. | .steerImage .. | .searchHeader .. | .walkHeader _ | .walkImage _ => none

/-- The ring controller an access belongs to, if its owner is a ring controller. -/
def Owner.ring? : Owner → Option RingId
  | .preRead _ | .imageWrite _ | .headerWrite _ => none
  | .checkpointMark r | .rollbackMark r | .freshMark r | .restoreHeader r | .restoreImage r | .restoreWrite r => some r
  | .steerHeader r _ | .steerImage r _ | .searchHeader r _ | .walkHeader r | .walkImage r => some r

/-- A restore access of the ring (R58, R118). -/
def Owner.restores (r : RingId) : Owner → Bool
  | .restoreHeader q | .restoreImage q | .restoreWrite q => q == r
  | .preRead _ | .imageWrite _ | .headerWrite _ | .checkpointMark _ | .rollbackMark _ | .freshMark _ => false
  | .steerHeader .. | .steerImage .. | .searchHeader .. | .walkHeader _ | .walkImage _ => false

/-- A steering access of the ring (R58, R124). -/
def Owner.steers (r : RingId) : Owner → Bool
  | .steerHeader q _ | .steerImage q _ => q == r
  | .preRead _ | .imageWrite _ | .headerWrite _ | .checkpointMark _ | .rollbackMark _ | .freshMark _ => false
  | .restoreHeader _ | .restoreImage _ | .restoreWrite _ | .searchHeader .. | .walkHeader _ | .walkImage _ => false

/-- The steering access of one host read of the ring (R122). -/
def Owner.steersTag (r : RingId) (t : HostTag) : Owner → Bool
  | .steerHeader q u | .steerImage q u => q == r && u == t
  | .preRead _ | .imageWrite _ | .headerWrite _ | .checkpointMark _ | .rollbackMark _ | .freshMark _ => false
  | .restoreHeader _ | .restoreImage _ | .restoreWrite _ | .searchHeader .. | .walkHeader _ | .walkImage _ => false

/-- How an own access ends: OKAY with the bytes of a read, or ERROR or TIMEOUT, which every owner treats alike
(R43, R163). -/
inductive AccessEnd where
  | okay (data : List Byte)
  | failed
deriving DecidableEq, Repr

/-- The end that a response of memory gives: any status other than OKAY is ERROR (R163). -/
def accessEnd (st : MemStatus) (data : List Byte) : AccessEnd :=
  match st with
  | .okay => .okay data
  | .error | .other => .failed

end Sys2Proof.Machine
end

