-- ==== Sys2Proof/Machine/Flags.lean ====
section
/-! DEFINITION. The flags, scores and tests the rules compute: ready and NOTIFY, the arming flags, the fault score, line
order and contexts, regions, and the checks of records read back. -/

namespace Sys2Proof.Machine

/-! ### Pins (R154, R178) -/

/-- The host port's request channel shows ready (R154); an arrival waiting in the classifier keeps it from taking
another (R159). -/
def State.hostReady (s : State) : Bool :=
  !s.inReset && s.hold.length < Config.holdPlaces && s.forward.length < Config.forwardPlaces &&
    !s.decided.any fun d => d.source == .classifier

/-- The NOTIFY line: high while the event queue holds a record, low in a device reset (R178). -/
def State.notify (s : State) : Bool := !s.inReset && !s.events.isEmpty

/-! ### The fault score (R148 to R151) -/

/-- The fault score after the report of an outcome (R148). -/
def scoreAfter (score : Nat) (ok : Bool) : Nat :=
  if ok then score - 1 else min Config.topScore (score + Config.failureWeight)

/-- The report carries the score over a level from below it (R150, R151). -/
def crosses (level old new : Nat) : Bool := old < level && level ≤ new

/-! ### Sequence numbers, epochs, timer -/

/-- The next sequence number is exhausted (R8). -/
def Ring.exhausted (r : Ring) : Bool := r.nextSeq == 0

/-- The epoch after an epoch: after 4,294,967,295 comes 1 (R9). -/
def epochAfter (e : Epoch) : Epoch := if e + 1 = 0 then 1 else e + 1

/-- The full interval of an interval code in µs; none for code 0, off (R89). -/
def intervalTime : Fin 6 → Option Nat
  | 0 => none
  | 1 => some 10000
  | 2 => some 50000
  | 3 => some 250000
  | 4 => some 1000000
  | 5 => some 5000000

/-- FILL-HIGH is due: the level is on, reached or passed, and armed (R17). -/
def Ring.fillHighDue (r : Ring) : Bool := r.config.highWater != 0 && r.config.highWater ≤ r.live && r.highArmed

/-! ### Touched-line set (R65, R68, R69) -/

/-- The entry for a line (R69). -/
def Ring.touchedEntry (r : Ring) (line : Addr) : Option TouchedEntry := r.touched.find? fun e => e.line == line

/-- A line is tracked if an entry names it, whatever the complete flag says (R68). -/
def Ring.tracked (r : Ring) (line : Addr) : Bool := r.touched.any fun e => e.line == line

/-- The set's answer to the offer of a reserved record's line and cell (R65, R67). -/
def Ring.offer (r : Ring) (line : Addr) (cell : Nat) : Ring :=
  if !r.complete || r.tracked line then r
  else if r.touched.length < Config.touchedPlaces then
    { r with touched := r.touched ++ [{ line, cell, restored := false }] }
  else { r with complete := false }

/-- The entry that names a cell is marked restored; with none, nothing changes (R70). -/
def Ring.markRestored (r : Ring) (cell : Nat) : Ring :=
  { r with touched := r.touched.map fun e => if e.cell = cell then { e with restored := true } else e }

/-! ### Outstanding-record list (R18, R19) -/

/-- The entry of a sequence number has its durable flag set (R18). -/
def setDurable (seq : Seq) (xs : List OutRecord) : List OutRecord :=
  xs.map fun e => if e.seq = seq then { e with durable := true } else e

/-- The durable entries at the head of the list (R19). -/
def durableHead (xs : List OutRecord) : List OutRecord := xs.takeWhile fun e => e.durable

/-- What stays of the list once the durable head has left it (R19). -/
def afterDurableHead (xs : List OutRecord) : List OutRecord := xs.dropWhile fun e => e.durable

/-! ### Regions and treatments (R32 to R35) -/

/-- An enabled region matches an address (R32). -/
def Region.matches (g : Region) (a : Addr) : Bool := g.enable && (a &&& g.mask) == (g.base &&& g.mask)

/-- The region that decides an address: the matching one of lowest index (R32). -/
def State.regionFor (s : State) (a : Addr) : Option Region := s.regions.toList.find? fun g => g.matches a

/-- The outcome of step 2 of R33. `lookUp` is a write of an ACTIVE ring, which the touched-line set splits into a tracked
write and a write that needs a context, once its line is clear (R36). -/
inductive Treatment where
  | forward
  | lookUp (ring : RingId)
  | steer (ring : RingId)
  | holdMark
  | holdClose
  | answer (status : HostStatus)
deriving DecidableEq, Repr

/-- The treatment of a JOURNAL request by its ring's state (R35). -/
def journalTreatment (kind : ReqKind) (r : RingId) : RingState → Treatment
  | .closed | .broken => .forward
  | .opening => match kind with
    | .read => .forward
    | .write => .answer .retry
  | .active => match kind with
    | .read => .forward
    | .write => .lookUp r
  | .checkpointing => match kind with
    | .read => .forward
    | .write => .holdMark
  | .rolling => match kind with
    | .read => .steer r
    | .write => .answer .retry
  | .closing => match kind with
    | .read => .forward
    | .write => .holdClose

/-- The ring a request's region names: none for PASS and GUARD (R33, R74). -/
def State.ringFor (s : State) (q : HostRequest) : Option RingId :=
  match s.regionFor q.addr with
  | none => none
  | some g => match g.cls with
    | .pass | .guard => none
    | .journal => some g.ring

/-- The treatment of a legal request in RUN mode (R33 to R35). -/
def State.treatment (s : State) (q : HostRequest) : Treatment :=
  match s.regionFor q.addr with
  | none => .forward
  | some g => match g.cls with
    | .pass => .forward
    | .guard => match q.kind with
      | .read => .forward
      | .write => .answer .error
    | .journal => journalTreatment q.kind g.ring (s.ring g.ring).phase.state

/-! ### Line order and the context test (R75, R77) -/

/-- A line is held by a write context in use, or by an entry ahead in the hold queue (R75). -/
def State.lineHeld (s : State) (ahead : List HoldEntry) (line : Addr) : Bool :=
  s.contexts.toList.any (fun
    | some x => x.req.line == line
    | none => false) || ahead.any fun e => e.req.line == line

/-- The context a request that needs one takes: a free one, unless an entry ahead waits for a context (R77). -/
def State.contextFor (s : State) (ahead : List HoldEntry) : Option CtxId :=
  if ahead.any fun e => e.reason == .context then none else s.freeCtx

/-- An entry belongs to a ring when it is held for CONTEXT, MARK or CLOSE and names it (R82). -/
def HoldEntry.belongsTo (e : HoldEntry) (r : RingId) : Bool := e.reason != .line && e.ring == some r

/-! ### Checks of records read back (R109, R122, R132, R134) -/

/-- The tests the restore makes of the record at the cursor (R109). -/
def Ring.restorePasses (r : Ring) (id : RingId) (header image : List Byte) : Bool :=
  let h := parseHeader header
  h.kind == kindPreImage && h.ring == id.val && h.tag == r.config.tag && h.epoch == r.epoch &&
    r.expected == some h.seq && h.check == checkOf header image

/-- The tests steering makes of the record it has read for a line (R122). -/
def Ring.steerPasses (r : Ring) (id : RingId) (line : Addr) (header image : List Byte) : Bool :=
  let h := parseHeader header
  h.kind == kindPreImage && h.ring == id.val && h.tag == r.config.tag && h.epoch == r.epoch && h.line == line &&
    h.check == checkOf header image

/-- A header that holds a valid mark (R132). -/
def Ring.validMark (r : Ring) (id : RingId) (header : List Byte) : Bool :=
  let h := parseHeader header
  h.kind == kindMark && h.ring == id.val && h.tag == r.config.tag && h.seq != 0 && h.epoch != 0 &&
    h.check == checkOf header []

/-- A valid mark found in a cell replaces the newest mark (R132). -/
def replaces (old : Option NewestMark) (new : NewestMark) : Bool :=
  match old with
  | none => true
  | some m => m.seq < new.seq || (m.seq == new.seq && new.cell < m.cell)

/-- A header the walk passes at the walk cell (R134). -/
def Ring.walkPasses (r : Ring) (id : RingId) (m : NewestMark) (header : List Byte) : Bool :=
  let h := parseHeader header
  h.kind == kindPreImage && h.ring == id.val && h.tag == r.config.tag &&
    h.seq == m.seq + BitVec.ofNat 64 (r.walkCount + 1) && h.epoch == m.epoch && lineOf h.line == h.line

/-- The bytes of an image at a request's offset within the line, of the request's size (R122). -/
def imageBytes (q : HostRequest) (image : List Byte) : List Byte :=
  (image.drop (q.addr.toNat % 64)).take (sizeBytes q.size)

end Sys2Proof.Machine
end

