-- ==== Sys2Proof/Machine/RingActs.lean ====
section
/-! DEFINITION. The acts of a ring controller that several commands share: breaking, failing an open, reserving a mark,
restoring, scanning, ending a drain, starting and completing operations, and the reset of a ring. -/

namespace Sys2Proof.Machine

/-! ### Write contexts that stop journaling (R48, R53, R59, R61) -/

/-- A context whose journaling has stopped forwards its host write: it moves to FORWARDED and the write is decided for
forwarding (R48, R53, R59). A context that has forwarded or answered already does neither again (R54). -/
def State.forwardCtx (s : State) (c : CtxId) : State :=
  match s.ctx c with
  | none => s
  | some x =>
    if x.phase = .forwarded ∨ x.phase = .answering then s
    else (s.setCtx c (some { x with phase := .forwarded, access := .none, stopped := true })).decide ⟨.context c, x.req⟩

/-- A context answers its host write ERROR; it is freed when the response is returned (R45, R47). -/
def State.answerCtx (s : State) (c : CtxId) : State :=
  match s.ctx c with
  | none => s
  | some x =>
    (s.setCtx c (some { x with phase := .answering, access := .none, image := none })).respond x.req.tag .error []

/-- A break releases this context at once: its access has not been issued, or it waits for the frontier (R59). -/
def Context.breakReleases (x : Context) (r : RingId) : Bool :=
  x.ring == some r && match x.phase with
    | .preRead | .imageWrite | .headerWrite => x.access == .waiting
    | .awaitFrontier => true
    | .reserve | .forwarded | .answering => false

/-- A ring reset releases this context at once (R61). -/
def Context.resetReleases (x : Context) (r : RingId) : Bool :=
  x.ring == some r && match x.phase with
    | .preRead | .reserve | .imageWrite | .headerWrite | .awaitFrontier => true
    | .forwarded | .answering => false

/-- What a break makes of a context (R59). -/
def Context.afterBreak (x : Context) (r : RingId) : Context :=
  if x.breakReleases r then { x with stopped := true, phase := .forwarded, access := .none }
  else if x.ring = some r then { x with stopped := true }
  else x

/-- What a ring reset makes of a context: detached, and released unless it is already FORWARDED or ANSWERING (R61). -/
def Context.afterReset (x : Context) (r : RingId) : Context :=
  if x.resetReleases r then { x with stopped := true, ring := none, phase := .forwarded, access := .none }
  else if x.ring = some r then { x with stopped := true, ring := none }
  else x

/-- The host writes of the contexts that satisfy `p`, as requests decided for forwarding (R159). -/
def State.writesOf (s : State) (p : Context → Bool) : List Decided :=
  (List.finRange 8).filterMap fun c => match s.ctx c with
    | some x => if p x then some ⟨.context c, x.req⟩ else none
    | none => none

/-- The owner is a context that satisfies `p`. -/
def State.ownedBy (s : State) (p : Context → Bool) (o : Owner) : Bool :=
  match o.ctx? with
  | none => false
  | some c => (s.ctx c).any p

/-- The steering access of this read waits in the arbiter, without an own tag (R124). -/
def State.steerWaits (s : State) (r : RingId) (q : Steered) : Bool :=
  s.journal.any fun a => a.owner.steersTag r q.req.tag

/-! ### Becoming BROKEN (R143) -/

/-- What the move to BROKEN does to the ring's own state, steps 1 to 7 of R143. -/
def Ring.broken (x : Ring) (cause : Cause) : Ring :=
  { x with
    phase := .broken, lastCause := cause, timer := none, reason := none, markRetry := false, mark := none,
    restoreRetry := false, cursor := none, expected := none, restoreHeader := none, restoreImage := none, restored := 0,
    outstanding := [], touched := [], complete := false }

/-- The act of becoming BROKEN (R143). The ring's contexts stop journaling (R59); steered reads whose access waits are
forwarded (R124); restore accesses that wait are withdrawn (R118). -/
def State.becomeBroken (s : State) (r : RingId) (cause : Cause) : State :=
  let x := s.ring r
  let released := s.writesOf (·.breakReleases r) ++
    (x.steered.filter (s.steerWaits r)).map fun q => ⟨.ring r, q.req⟩
  let withdrawn := fun o : Owner => s.ownedBy (·.breakReleases r) o || o.restores r || o.steers r
  let s1 := (s.withdraw withdrawn).setRing r
    { x.broken cause with steered := x.steered.filter fun q => !s.steerWaits r q }
  let s2 := { s1 with contexts := mapVec (Option.map fun y : Context => y.afterBreak r) s1.contexts }
  ((s2.decideAll released).raise (.broken r cause x.live)).askPass

/-- A ring becomes BROKEN from ACTIVE, CHECKPOINTING, ROLLING or CLOSING, in any sub-phase (09 section 9.1). -/
def Phase.mayBreak : Phase → Bool
  | .active | .checkpointingDrain | .checkpointingMark | .rollingDrain | .rollingRestore | .rollingMark
  | .closingDrain => true
  | .closed | .openingDrain | .openingScan | .openingMark | .broken => false

/-- A failure makes a ring BROKEN, unless it is BROKEN already (R143, R145). -/
def State.breakRing (s : State) (r : RingId) (cause : Cause) : State :=
  if (s.ring r).phase.mayBreak then s.becomeBroken r cause else s

/-- The withdrawal of a mark's reservation (R101, R119). -/
def Ring.withdrawMark (x : Ring) : Ring :=
  match x.mark with
  | none => x
  | some m => { x with produce := m.cell, live := x.live - 1, nextSeq := m.seq, mark := none }

/-- A checkpoint or rollback in its MARK sub-phase fails: the mark is withdrawn and the ring breaks (R101, R119). -/
def State.failMark (s : State) (r : RingId) (cause : Cause) : State :=
  (s.modRing r Ring.withdrawMark).breakRing r cause

/-! ### CLOSED, and the failure of an open (R136) -/

/-- The six position values zeroed (R3, R22, R24, R128, R136). -/
def Ring.zeroed (x : Ring) : Ring :=
  { x with release := 0, produce := 0, live := 0, nextSeq := 0, epoch := 0, frontier := 0 }

/-- The scan state and the open mode at their reset values (08). -/
def Ring.scanReset (x : Ring) : Ring :=
  { x with
    openMode := none, scanPart := none, searchCell := 0, scanReads := 0, newest := none, walkCell := none,
    walkCount := 0, walkHeader := none }

/-- The accesses of an open: its mark write and its scan reads (R136). -/
def Owner.opens (r : RingId) : Owner → Bool
  | .freshMark q | .searchHeader q _ | .walkHeader q | .walkImage q => q == r
  | .preRead _ | .imageWrite _ | .headerWrite _ | .checkpointMark _ | .rollbackMark _ => false
  | .restoreHeader _ | .restoreImage _ | .restoreWrite _ | .steerHeader .. | .steerImage .. => false

/-- An open fails: the ring becomes CLOSED, waiting accesses are withdrawn and issued ones become orphans (R136). -/
def State.openFail (s : State) (r : RingId) (cause : Cause) : State :=
  let s1 := s.modRing r fun x =>
    { x.zeroed.scanReset with
      phase := .closed, outstanding := [], touched := [], complete := false, highArmed := false, fullArmed := false,
      timer := none, markRetry := false, mark := none }
  (((s1.withdraw (Owner.opens r)).orphan (Owner.opens r)).raise (.openFailed r cause)).askPass

/-! ### The score report (R148 to R151) -/

/-- The effect of a score that has reached 160 (R151). OPENING/DRAIN, in which no report is taken, is treated as the rest
of OPENING (DEDUCED, log 20). -/
def State.scoreFails (s : State) (r : RingId) : State :=
  match (s.ring r).phase with
  | .active | .checkpointingDrain | .rollingDrain | .rollingRestore | .closingDrain => s.breakRing r .score
  | .checkpointingMark | .rollingMark => s.failMark r .score
  | .openingDrain | .openingScan | .openingMark => s.openFail r .score
  | .closed | .broken => s

/-- The report of the outcome of an own access to its ring's fault score, as one act (R148, R150, R151). -/
def State.report (s : State) (r : RingId) (ok : Bool) : State :=
  let old := (s.ring r).score
  let new := scoreAfter old ok
  let s1 := s.modRing r fun x => { x with score := new }
  let s2 := if crosses Config.suspectScore old new then s1.raise (.scoreSuspect r new) else s1
  if crosses Config.failedScore old new then s2.scoreFails r else s2

/-! ### Becoming ACTIVE -/

/-- The ring becomes ACTIVE and its timer starts with the full interval, or stays stopped with code 0 (R89). -/
def Ring.activated (x : Ring) : Ring := { x with phase := .active, timer := intervalTime x.config.interval }

/-- A durable mark of a checkpoint or a rollback: a new epoch from the mark's cell (R10, R99, R116). -/
def Ring.newEpoch (x : Ring) (m : Mark) : Ring :=
  { x with
    release := m.cell, live := 1, epoch := m.epoch, frontier := m.seq, outstanding := [], touched := [],
    complete := true, highArmed := true, fullArmed := true, markRetry := false, mark := none }

/-! ### Marks (R13, R97, R114, R130) -/

/-- The reservation of a mark at the produce cell (R13). -/
def Ring.reserveMark (x : Ring) (epoch : Epoch) (reason : MarkReason) (released : Nat) : Ring :=
  { x with
    mark := some { cell := x.produce, seq := x.nextSeq, epoch, reason, released }
    produce := x.config.nextCell x.produce, live := x.live + 1, nextSeq := x.nextSeq + 1 }

/-- The write of the mark's 32-byte header is requested in the JOURNAL class (R97, R114, R130). -/
def State.requestMark (s : State) (r : RingId) (owner : Owner) : State :=
  let x := s.ring r
  match x.mark with
  | none => s
  | some m => s.requestJournal
      { owner, kind := .write, addr := x.config.cellAddr m.cell, size := 2, data := markHeader r x.config.tag m }

/-- The drain of a checkpoint has ended: its mark is reserved and written, or the ring breaks with cause SEQUENCE
(R97, R102). -/
def State.checkpointMark (s : State) (r : RingId) : State :=
  let x := s.ring r
  if x.exhausted then s.breakRing r .sequence
  else
    (s.setRing r { x.reserveMark (epochAfter x.epoch) (.checkpoint (x.reason.getD .command)) (x.live - 1) with
      phase := .checkpointingMark }).requestMark r (.checkpointMark r)

/-- The restore has ended: the rollback's mark is reserved and written, or the ring breaks with cause SEQUENCE
(R113, R114, R119). -/
def State.rollbackMark (s : State) (r : RingId) : State :=
  let x := s.ring r
  if x.exhausted then s.breakRing r .sequence
  else
    (s.setRing r { x.reserveMark (epochAfter x.epoch) .rollback (x.live - 1) with
      phase := .rollingMark, cursor := none, expected := none }).requestMark r (.rollbackMark r)

/-- The drain of a FRESH open has ended: its mark is reserved at cell 0 with sequence 1 and written (R130). -/
def State.freshMark (s : State) (r : RingId) : State :=
  (s.modRing r fun x =>
    { { x with nextSeq := 1, release := 0, produce := 0, live := 0 }.reserveMark 1 .fresh 0 with
      phase := .openingMark }).requestMark r (.freshMark r)

/-! ### The restore (R107, R108, R113) -/

/-- With the cursor at the release cell and no steering read in progress the restore ends (R113). -/
def State.restoreEndTest (s : State) (r : RingId) : State :=
  let x := s.ring r
  if x.phase == .rollingRestore && x.cursor == some x.release && x.steered.isEmpty then s.rollbackMark r else s

/-- The header read of the cell at the cursor is requested, unless the cursor has reached the release cell; then the
end of the restore is tested (R108, R111, R113). -/
def State.restoreNext (s : State) (r : RingId) : State :=
  let x := s.ring r
  match x.cursor with
  | none => s
  | some cell =>
    if cell = x.release then s.restoreEndTest r
    else s.requestService
      { owner := .restoreHeader r, kind := .read, addr := x.config.cellAddr cell, size := 2, data := [] }

/-- The drain of a rollback has ended: the restore starts at the newest record (R107). -/
def State.restoreStart (s : State) (r : RingId) : State :=
  (s.modRing r fun x =>
    { x with
      phase := .rollingRestore, cursor := some (x.config.prevCell x.produce),
      expected := some (x.nextSeq - 1) }).restoreNext r

/-! ### The recovery scan (R132 to R135) -/

/-- The next header read of the search is requested, while cells are left and fewer than 4 reads are requested and
not yet ended (R132). -/
def State.searchNext (s : State) (r : RingId) : State :=
  let x := s.ring r
  if x.searchCell < x.config.cells && x.scanReads < Config.searchReads then
    (s.setRing r { x with searchCell := x.searchCell + 1, scanReads := x.scanReads + 1 }).requestService
      { owner := .searchHeader r x.searchCell, kind := .read, addr := x.config.cellAddr x.searchCell, size := 2,
        data := [] }
  else s

/-- The drain of a RECOVER open has ended: the search begins, with up to 4 reads requested (R132). -/
def State.searchStart (s : State) (r : RingId) : State :=
  ((((s.modRing r fun x => { x with phase := .openingScan, scanPart := some .search }).searchNext r).searchNext
    r).searchNext r).searchNext r

/-- The walk has stopped: the open completes with the recovered live set (R135). -/
def State.recoverComplete (s : State) (r : RingId) (m : NewestMark) : State :=
  let x := s.ring r
  let live := x.walkCount + 1
  ((s.setRing r
    { x.scanReset.activated with
      release := m.cell, live, produce := (m.cell + live) % x.config.cells, nextSeq := m.seq + BitVec.ofNat 64 live,
      frontier := m.seq + BitVec.ofNat 64 x.walkCount, epoch := m.epoch, outstanding := [], touched := [],
      complete := false, highArmed := true, fullArmed := true }).raise
    (.opened r .recover m.epoch live)).askPass

/-- The walk goes on to the header of the walk cell, or stops without reading further: at capacity − 2 accepted
records, or when the expected sequence number would exceed 2^64 − 1 (R134). -/
def State.walkNext (s : State) (r : RingId) : State :=
  let x := s.ring r
  match x.newest, x.walkCell with
  | some m, some cell =>
    if x.walkCount + 2 ≥ x.config.cells || m.seq.toNat + x.walkCount + 1 ≥ 2 ^ 64 then s.recoverComplete r m
    else (s.setRing r { x with scanReads := 1, walkHeader := none }).requestService
      { owner := .walkHeader r, kind := .read, addr := x.config.cellAddr cell, size := 2, data := [] }
  | _, _ => s

/-- The search has ended: the walk begins after the newest mark's cell, or the open fails with NO-JOURNAL (R133). -/
def State.searchEnd (s : State) (r : RingId) : State :=
  match (s.ring r).newest with
  | none => s.openFail r .noJournal
  | some m =>
    (s.modRing r fun x =>
      { x with scanPart := some .walk, walkCell := some (x.config.nextCell m.cell), walkCount := 0 }).walkNext r

/-! ### The end of a drain (R58) -/

/-- The drain of a close has ended: the close completes (R139). Durability reports of the ring that have not been
taken name no entry any more and are dropped (log 9). -/
def State.closeComplete (s : State) (r : RingId) : State :=
  let s1 := s.modRing r fun x =>
    { x with
      phase := .closed, outstanding := [], touched := [], complete := false, highArmed := false, fullArmed := false,
      timer := none }
  (({ s1 with reports := s1.reports.filter fun p => p.ring != r }).raise (.closed r .command)).askPass

/-- No restore or steering own access of the ring is outstanding, waiting or issued (R58, log 8). -/
def State.noneOutstanding (s : State) (r : RingId) : Bool :=
  (s.ring r).steered.isEmpty && !s.service.any (fun a => a.owner.restores r) &&
    !s.ownTags.toList.any (fun
      | .inUse (some o) _ => o.restores r
      | _ => false)

/-- The condition that ends a DRAIN sub-phase (R58). -/
def State.drained (s : State) (r : RingId) : Bool := (s.ring r).inFlight == 0 && s.noneOutstanding r

/-- The drain test of a ring, and what its operation does when its drain ends (R58). -/
def State.drainTest (s : State) (r : RingId) : State :=
  if s.drained r then
    match (s.ring r).phase with
    | .openingDrain => match (s.ring r).openMode with
      | some .recover => s.searchStart r
      | some .fresh => s.freshMark r
      | none => s
    | .checkpointingDrain => s.checkpointMark r
    | .rollingDrain => s.restoreStart r
    | .closingDrain => s.closeComplete r
    | .closed | .openingScan | .openingMark | .active | .checkpointingMark | .rollingRestore | .rollingMark
    | .broken => s
  else s

/-! ### Starting operations -/

/-- The entries that belong to a ring entering OPENING or ROLLING are removed and answered RETRY (R82). A pass asked for,
and the note of a stop at the forward buffer, stay as they are, also when no entry is left (DESIGN CHOICE, log 29). -/
def State.retryHeld (s : State) (r : RingId) : State :=
  let gone := s.hold.filter (·.belongsTo r)
  (s.freeOrder gone).foldl (fun t e => t.respond e.req.tag .retry [])
    { s.afterOrder gone with hold := s.hold.filter fun e => !e.belongsTo r }

/-- A checkpoint starts (R88). -/
def State.startCheckpoint (s : State) (r : RingId) (reason : CkptReason) : State :=
  ((s.modRing r fun x =>
    { x with phase := .checkpointingDrain, reason := some reason, markRetry := false, timer := none }).askPass).drainTest
    r

/-- A rollback starts (R106). -/
def State.startRollback (s : State) (r : RingId) : State :=
  (((s.modRing r fun x =>
    { x with
      phase := .rollingDrain, cursor := none, expected := none, restored := 0, restoreRetry := false,
      markRetry := false, timer := none }).retryHeld r).askPass).drainTest r

/-- An open starts (R128). -/
def State.startOpen (s : State) (r : RingId) (mode : OpenMode) : State :=
  (((s.modRing r fun x =>
    { x.zeroed.scanReset with
      phase := .openingDrain, openMode := some mode, markRetry := false, outstanding := [] }).retryHeld r).askPass).drainTest r

/-- A close starts (R138). -/
def State.startClose (s : State) (r : RingId) : State :=
  ((s.modRing r fun x => { x with phase := .closingDrain, timer := none }).askPass).drainTest r

/-! ### RESET-RING (R141) -/

/-- The state RESET-RING leaves its ring in (R24): as a device reset leaves it, but with the configuration, the last
BROKEN cause and the in-flight write count kept. -/
def Ring.ringReset (x : Ring) : Ring :=
  { Ring.reset with config := x.config, lastCause := x.lastCause, inFlight := x.inFlight }

/-- RESET-RING (R141): the ring becomes CLOSED at once, its contexts are detached and forward their host writes (R61),
its steered reads are forwarded (R124), accesses that wait are withdrawn and issued ones become orphans (R62). Durability
reports of the ring that have not been taken name no entry any more and are dropped (log 9). -/
def State.resetRing (s : State) (r : RingId) : State :=
  let x := s.ring r
  let mine := fun o : Owner => s.ownedBy (fun y => y.ring == some r) o || o.ring? == some r
  let released := s.writesOf (·.resetReleases r) ++ x.steered.map fun q => ⟨.ring r, q.req⟩
  let s1 := ((s.withdraw mine).orphan mine).setRing r x.ringReset
  let s2 := { s1 with
    contexts := mapVec (Option.map fun y : Context => y.afterReset r) s1.contexts
    reports := s1.reports.filter fun p => p.ring != r }
  ((s2.decideAll released).raise (.closed r .reset)).askPass

/-! ### Passing the classifier (R33, R42, R57, R121) -/

/-- A write that proceeds is reported to its ring: the in-flight count rises, and the tag's entry names the ring
(R33, R57, R157). -/
def State.countWrite (s : State) (r : RingId) (t : HostTag) : State :=
  match s.tagEntry t with
  | none => s
  | some e =>
    (s.modRing r fun x => { x with inFlight := x.inFlight + 1 }).setTag t (some { e with counted := some r })

/-- A request proceeds to forwarding; a write of a JOURNAL region is reported to its ring, a read is not (R33, R57). -/
def State.proceed (s : State) (src : Source) (ring : Option RingId) (q : HostRequest) : State :=
  let s1 := match q.kind, ring with
    | .write, some r => s.countWrite r q.tag
    | .write, none | .read, _ => s
  s1.decide ⟨src, q⟩

/-- A write takes a free context: it is loaded and reported as one act, and its pre-read is requested (R42, R44). -/
def State.takeContext (s : State) (c : CtxId) (r : RingId) (q : HostRequest) : State :=
  ((s.setCtx c (some
    { req := q, ring := some r, phase := .preRead, image := none, reserved := none, retryUsed := false,
      access := .waiting, stopped := false })).countWrite r q.tag).requestJournal
    { owner := .preRead c, kind := .read, addr := q.line, size := 3, data := [] }

/-- The ring controller takes a read handed to it for steering: it is steered, forwarded or answered RETRY
(R69, R121, R122). The hand-over and this decision are one act, so that a read classified while the ring is ROLLING is
never taken after it has become ACTIVE, the last row of R39 (DESIGN CHOICE, log 28); every other state forwards it. -/
def State.steerRead (s : State) (r : RingId) (q : HostRequest) : State :=
  let x := s.ring r
  if x.phase.state = .rolling then
    if x.complete then
      match x.touchedEntry q.line with
      | none => s.decide ⟨.ring r, q⟩
      | some e =>
        if e.restored then s.decide ⟨.ring r, q⟩
        else (s.setRing r { x with steered := x.steered ++ [{ req := q, cell := e.cell, header := none }] }).requestJournal
          { owner := .steerHeader r q.tag, kind := .read, addr := x.config.cellAddr e.cell, size := 2, data := [] }
    else s.respond q.tag .retry []
  else s.decide ⟨.ring r, q⟩

end Sys2Proof.Machine
end

