-- ==== Sys2Proof/Machine/Outcomes.lean ====
section
/-! DEFINITION. What the owner of an own access does when the access ends (R43, R163): the outcome goes first to the fault
score of the owner's ring, and then to the owner, which finds its ring as the report left it. -/

namespace Sys2Proof.Machine

/-- The access ended OKAY. -/
def AccessEnd.ok : AccessEnd → Bool
  | .okay _ => true
  | .failed => false

/-- The bytes read, empty for a failed access. -/
def AccessEnd.data : AccessEnd → List Byte
  | .okay d => d
  | .failed => []

/-- The score report of a context's access, to the ring the context belongs to (R43). -/
def State.reportCtx (s : State) (c : CtxId) (ok : Bool) : State :=
  match (s.ctx c).bind (·.ring) with
  | some r => s.report r ok
  | none => s

/-! ### Write contexts (chapter 3) -/

/-- The image write of a context is requested (R49). -/
def State.requestImage (s : State) (c : CtxId) (r : RingId) (v : Reserved) (image : List Byte) : State :=
  s.requestJournal
    { owner := .imageWrite c, kind := .write, addr := (s.ring r).config.imageAddr v.cell, size := 3, data := image }

/-- The header write of a context is requested (R50). -/
def State.requestHeader (s : State) (c : CtxId) (r : RingId) (v : Reserved) (line : Addr) (image : List Byte) : State :=
  s.requestJournal
    { owner := .headerWrite c, kind := .write, addr := (s.ring r).config.cellAddr v.cell, size := 2,
      data := preImageHeader r v line image }

/-- A pre-read has ended (R44, R45, R59). A context with journaling stopped forwards without storing the bytes returned;
R59 leaves open whether it still stores them (DESIGN CHOICE, log 30, safe: nothing reads them). -/
def State.endPreRead (s : State) (c : CtxId) (e : AccessEnd) : State :=
  let s1 := s.reportCtx c e.ok
  match s1.ctx c with
  | none => s1
  | some x =>
    if x.phase = .preRead then
      match e with
      | .failed => s1.answerCtx c
      | .okay data =>
        if x.stopped then s1.forwardCtx c
        else s1.setCtx c (some { x with image := some data, phase := .reserve, access := .none })
    else s1

/-- A record write of a context has failed: one retry, then the ring breaks with cause RECORD-FAILED; a context whose
ring has broken forwards (R51, R59). `again` requests the same write once more. -/
def State.recordWriteFailed (s : State) (c : CtxId) (x : Context) (again : State → State) : State :=
  if x.stopped then s.forwardCtx c
  else if x.retryUsed then
    match x.ring with
    | some r => (s.breakRing r .recordFailed).forwardCtx c
    | none => s.forwardCtx c
  else again (s.setCtx c (some { x with retryUsed := true, access := .waiting }))

/-- An image write has ended (R49, R51, R59). -/
def State.endImageWrite (s : State) (c : CtxId) (e : AccessEnd) : State :=
  let s1 := s.reportCtx c e.ok
  match s1.ctx c with
  | none => s1
  | some x => match x.phase, x.ring, x.reserved, x.image with
    | .imageWrite, some r, some v, some image => match e with
      | .failed => s1.recordWriteFailed c x fun t => t.requestImage c r v image
      | .okay _ =>
        if x.stopped then s1.forwardCtx c
        else (s1.setCtx c (some { x with retryUsed := false, phase := .headerWrite, access := .waiting })).requestHeader
          c r v x.req.line image
    | _, _, _, _ => s1

/-- A header write has ended: OKAY makes the record durable, and a durability report goes to the ring controller, also
from a context whose ring has broken (R50, R51, R59). -/
def State.endHeaderWrite (s : State) (c : CtxId) (e : AccessEnd) : State :=
  let s1 := s.reportCtx c e.ok
  match s1.ctx c with
  | none => s1
  | some x => match x.phase, x.ring, x.reserved, x.image with
    | .headerWrite, some r, some v, some image => match e with
      | .failed => s1.recordWriteFailed c x fun t => t.requestHeader c r v x.req.line image
      | .okay _ =>
        let s2 := { s1 with reports := s1.reports ++ [(⟨r, v.seq⟩ : Report)] }
        if x.stopped then s2.forwardCtx c
        else s2.setCtx c (some { x with phase := .awaitFrontier, access := .none })
    | _, _, _, _ => s1

/-! ### Marks (R98, R115, R130) -/

/-- A checkpoint's mark is durable: the checkpoint completes (R99, R100). -/
def State.checkpointComplete (s : State) (r : RingId) (m : Mark) : State :=
  let x := s.ring r
  ((s.setRing r { (x.newEpoch m).activated with reason := none }).raise
    (.checkpointed r (x.reason.getD .command) m.epoch m.released)).askPass

/-- A checkpoint's mark header write has ended (R98). -/
def State.endCheckpointMark (s : State) (r : RingId) (e : AccessEnd) : State :=
  let s1 := s.report r e.ok
  let x := s1.ring r
  match x.phase, x.mark with
  | .checkpointingMark, some m =>
    if e.ok then s1.checkpointComplete r m
    else if x.markRetry then s1.failMark r .markFailed
    else (s1.setRing r { x with markRetry := true }).requestMark r (.checkpointMark r)
  | _, _ => s1

/-- A rollback's mark is durable: the rollback completes (R116, R117). -/
def State.rollbackComplete (s : State) (r : RingId) (m : Mark) : State :=
  let x := s.ring r
  ((s.setRing r { (x.newEpoch m).activated with restored := 0 }).raise
    (.rolledBack r m.epoch x.restored)).askPass

/-- A rollback's mark header write has ended (R115). -/
def State.endRollbackMark (s : State) (r : RingId) (e : AccessEnd) : State :=
  let s1 := s.report r e.ok
  let x := s1.ring r
  match x.phase, x.mark with
  | .rollingMark, some m =>
    if e.ok then s1.rollbackComplete r m
    else if x.markRetry then s1.failMark r .markFailed
    else (s1.setRing r { x with markRetry := true }).requestMark r (.rollbackMark r)
  | _, _ => s1

/-- The FRESH mark is durable: the open completes (R131). -/
def State.freshComplete (s : State) (r : RingId) (m : Mark) : State :=
  let x := s.ring r
  ((s.setRing r { (x.newEpoch m).activated with openMode := none }).raise
    (.opened r .fresh m.epoch 1)).askPass

/-- A FRESH mark header write has ended (R130). -/
def State.endFreshMark (s : State) (r : RingId) (e : AccessEnd) : State :=
  let s1 := s.report r e.ok
  let x := s1.ring r
  match x.phase, x.mark with
  | .openingMark, some m =>
    if e.ok then s1.freshComplete r m
    else if x.markRetry then s1.openFail r .markFailed
    else (s1.setRing r { x with markRetry := true }).requestMark r (.freshMark r)
  | _, _ => s1

/-! ### The restore (R108 to R111, R118) -/

/-- The restore write of the record at the cursor is requested, at the line its header names (R110). -/
def State.requestRestore (s : State) (r : RingId) (header image : List Byte) : State :=
  s.requestService
    { owner := .restoreWrite r, kind := .write, addr := (parseHeader header).line, size := 3, data := image }

/-- A restore header read has ended (R108). After a break its end is tested against a drain that waits for it (R58). -/
def State.endRestoreHeader (s : State) (r : RingId) (e : AccessEnd) : State :=
  let s1 := s.report r e.ok
  let x := s1.ring r
  match x.phase, x.cursor with
  | .rollingRestore, some cell =>
    if e.ok then
      (s1.setRing r { x with restoreHeader := some e.data }).requestService
        { owner := .restoreImage r, kind := .read, addr := x.config.imageAddr cell, size := 3, data := [] }
    else s1.breakRing r .restoreFailed
  | _, _ => s1.drainTest r

/-- A restore image read has ended: the record is checked, and its restore write is requested (R108, R109, R110). -/
def State.endRestoreImage (s : State) (r : RingId) (e : AccessEnd) : State :=
  let s1 := s.report r e.ok
  let x := s1.ring r
  match x.phase, x.restoreHeader with
  | .rollingRestore, some header =>
    if e.ok then
      if x.restorePasses r header e.data then
        (s1.setRing r { x with restoreImage := some e.data }).requestRestore r header e.data
      else s1.breakRing r .checksum
    else s1.breakRing r .restoreFailed
  | _, _ => s1.drainTest r

/-- What a completed restore write does to the ring's own state (R111). -/
def Ring.recordRestored (x : Ring) (cell : Nat) : Ring :=
  { x.markRestored cell with
    restored := x.restored + 1, restoreImage := none, restoreHeader := none, restoreRetry := false,
    cursor := some (x.config.prevCell cell), expected := x.expected.map (· - 1) }

/-- A restore write has ended (R110, R111). -/
def State.endRestoreWrite (s : State) (r : RingId) (e : AccessEnd) : State :=
  let s1 := s.report r e.ok
  let x := s1.ring r
  match x.phase, x.cursor, x.restoreHeader, x.restoreImage with
  | .rollingRestore, some cell, some header, some image =>
    if e.ok then (s1.setRing r (x.recordRestored cell)).restoreNext r
    else if x.restoreRetry then s1.breakRing r .restoreFailed
    else (s1.setRing r { x with restoreRetry := true }).requestRestore r header image
  | _, _, _, _ => s1.drainTest r

/-! ### Read steering (R122 to R124) -/

/-- The steering reads count falls: the end of the restore and the drain are tested (R113, R58). -/
def State.steerFell (s : State) (r : RingId) (t : HostTag) : State :=
  ((s.modRing r fun x => { x with steered := x.steered.filter fun q => q.req.tag != t }).restoreEndTest r).drainTest r

/-- A steering read has ended. In a ROLLING ring a header read OKAY leads to the image read, an image read OKAY to the
record check, and the host read is answered from the record or with ERROR; in a ring that has left ROLLING the host read
is forwarded, whatever the outcome (R122, R123, R124). -/
def State.endSteer (s : State) (r : RingId) (t : HostTag) (e : AccessEnd) : State :=
  let s1 := s.report r e.ok
  let x := s1.ring r
  match x.steered.find? fun q => q.req.tag == t with
  | none => s1
  | some q =>
    if x.phase.state = .rolling then
      match e with
      | .failed => (s1.respond t .error []).steerFell r t
      | .okay data => match q.header with
        | none =>
          (s1.setRing r
            { x with
              steered := x.steered.map fun p => if p.req.tag = t then { p with header := some data } else p
            }).requestJournal
            { owner := .steerImage r t, kind := .read, addr := x.config.imageAddr q.cell, size := 3, data := [] }
        | some header =>
          if x.steerPasses r q.req.line header data then
            (s1.respond t .okay (imageBytes q.req data)).steerFell r t
          else (s1.respond t .error []).steerFell r t
    else (s1.decide ⟨.ring r, q.req⟩).steerFell r t

/-! ### The recovery scan (R132 to R135) -/

/-- A valid mark found in a cell may replace the newest mark (R132). -/
def Ring.judgeMark (x : Ring) (id : RingId) (cell : Nat) (header : List Byte) : Ring :=
  let h := parseHeader header
  let m : NewestMark := { cell, seq := h.seq, epoch := h.epoch }
  if x.validMark id header && replaces x.newest m then { x with newest := some m } else x

/-- A header read of the search has ended: the cell is judged, the next read is requested, and the search ends when the
reads of all cells have ended (R132, R133). -/
def State.endSearch (s : State) (r : RingId) (cell : Nat) (e : AccessEnd) : State :=
  let s1 := s.report r e.ok
  let x := s1.ring r
  match x.phase, x.scanPart with
  | .openingScan, some .search =>
    let judged := if e.ok then x.judgeMark r cell e.data else x
    let s2 := (s1.setRing r { judged with scanReads := x.scanReads - 1 }).searchNext r
    if (s2.ring r).scanReads = 0 then s2.searchEnd r else s2
  | _, _ => s1

/-- A header read of the walk has ended: a header that passes leads to the image read, anything else stops the walk
(R134). -/
def State.endWalkHeader (s : State) (r : RingId) (e : AccessEnd) : State :=
  let s1 := s.report r e.ok
  let x := s1.ring r
  match x.phase, x.newest, x.walkCell with
  | .openingScan, some m, some cell =>
    if e.ok && x.walkPasses r m e.data then
      (s1.setRing r { x with walkHeader := some e.data }).requestService
        { owner := .walkImage r, kind := .read, addr := x.config.imageAddr cell, size := 3, data := [] }
    else s1.recoverComplete r m
  | _, _, _ => s1

/-- An image read of the walk has ended: the cell is accepted when its check matches, anything else stops the walk
(R134). -/
def State.endWalkImage (s : State) (r : RingId) (e : AccessEnd) : State :=
  let s1 := s.report r e.ok
  let x := s1.ring r
  match x.phase, x.newest, x.walkCell, x.walkHeader with
  | .openingScan, some m, some cell, some header =>
    if e.ok && (parseHeader header).check == checkOf header e.data then
      (s1.setRing r
        { x with
          walkCount := x.walkCount + 1, walkCell := some (x.config.nextCell cell), scanReads := 0,
          walkHeader := none }).walkNext r
    else s1.recoverComplete r m
  | _, _, _, _ => s1

/-! ### Delivery (R163) -/

/-- The outcome of an own access reaches its owner. -/
def State.deliver (s : State) (o : Owner) (e : AccessEnd) : State :=
  match o with
  | .preRead c => s.endPreRead c e
  | .imageWrite c => s.endImageWrite c e
  | .headerWrite c => s.endHeaderWrite c e
  | .checkpointMark r => s.endCheckpointMark r e
  | .rollbackMark r => s.endRollbackMark r e
  | .freshMark r => s.endFreshMark r e
  | .restoreHeader r => s.endRestoreHeader r e
  | .restoreImage r => s.endRestoreImage r e
  | .restoreWrite r => s.endRestoreWrite r e
  | .steerHeader r t | .steerImage r t => s.endSteer r t e
  | .searchHeader r cell => s.endSearch r cell e
  | .walkHeader r => s.endWalkHeader r e
  | .walkImage r => s.endWalkImage r e

/-- Memory answers an access whose tag is in use with an owner that satisfies `p`: the tag is freed and the outcome is
delivered (R163). Any other own tag is no matter of the row that names `p`. -/
def State.answered (s : State) (t : OwnTag) (e : AccessEnd) (p : Owner → Bool) : State :=
  match s.ownTag t with
  | .inUse (some o) _ => if p o then (s.setOwnTag t .free).deliver o e else s
  | .inUse none _ | .free | .quarantined => s

end Sys2Proof.Machine
end

