-- ==== Sys2Proof/Machine/HostPort.lean ====
section
/-! DEFINITION. The host port, the classifier and the hold queue: HOST_REQUEST, RE_EVALUATION, MEMORY_RESPONSE and
RESPONSE_RETURN (chapters 2, 5 and 10). -/

namespace Sys2Proof.Machine

/-- What a command answers: its effect, or no change while RESET_N is low (R154, R165, R179). -/
def running (s : State) (t : State) : Host.Outcome State Fault Refusal := .next (if s.inReset then s else t)

/-! ### Arrivals (R33, R76) -/

/-- A request joins the tail of the hold queue (R76). -/
def State.holdRequest (s : State) (ring : Option RingId) (q : HostRequest) (reason : HoldReason) : State :=
  { s with hold := s.hold ++ [{ req := q, ring, reason }] }

/-- A legal request arrives at the classifier in RUN mode (R33, R35, R36, R76). -/
def State.arrive (s : State) (q : HostRequest) : State :=
  let ring := s.ringFor q
  match s.treatment q with
  | .answer st => s.respond q.tag st []
  | .holdMark => s.holdRequest ring q .mark
  | .holdClose => s.holdRequest ring q .close
  | .forward =>
    if s.lineHeld s.hold q.line then s.holdRequest ring q .line else s.proceed .classifier ring q
  | .steer r => if s.lineHeld s.hold q.line then s.holdRequest ring q .line else s.steerRead r q
  | .lookUp r =>
    if s.lineHeld s.hold q.line then s.holdRequest ring q .line
    else if (s.ring r).tracked q.line then s.proceed .classifier ring q
    else match s.contextFor s.hold with
      | some c => s.takeContext c r q
      | none => s.holdRequest ring q .context

/-- The host port interface takes a request: tag reuse, legality, then the classifier (R26, R154 to R157). The taking and
the decision of the treatment are one act, so that no arrival finds the forward buffer filled in between (DESIGN CHOICE,
log 31, unsafe). -/
def State.takeRequest (s : State) (q : HostRequest) : State :=
  if s.hostReady then
    match s.tagEntry q.tag with
    | some _ => s.raise (.protocol q.tag)
    | none =>
      let s1 := s.setTag q.tag (some { kind := q.kind, counted := none, atMemory := false })
      if q.legal then
        match s1.mode with
        | .config => s1.decide ⟨.classifier, q⟩
        | .run => s1.arrive q
      else s1.respond q.tag .error []
  else s

/-- HOST_REQUEST. A request presented while the request channel is not ready is not taken (R154). -/
def execHostRequest (q : HostRequest) (s : State) : Host.Outcome State Fault Refusal := running s (s.takeRequest q)

/-! ### Re-evaluation (R26, R40, R78, R79) -/

/-- What a pass makes of one entry: it stays, as the pass leaves it; or it leaves; or the pass stops at it (R78, R79). -/
inductive Visit where
  | stays (e : HoldEntry)
  | leaves (s : State)
  | stops (e : HoldEntry)

/-- An entry leaves for the forward buffer, or stops the pass at a full buffer with its reason unchanged (R79). -/
def State.visitForward (s : State) (e : HoldEntry) (ring : Option RingId) : Visit :=
  if s.forward.length < Config.forwardPlaces then .leaves (s.proceed .classifier ring e.req)
  else .stops { e with ring }

/-- The visit of an entry in RUN mode; `ahead` are the older entries that this pass has left held (R78). -/
def State.visitRun (s : State) (ahead : List HoldEntry) (e : HoldEntry) : Visit :=
  if s.lineHeld ahead e.req.line then .stays { e with reason := .line }
  else
    let ring := s.ringFor e.req
    match s.treatment e.req with
    | .answer st => .leaves (s.respond e.req.tag st [])
    | .holdMark => .stays { e with ring, reason := .mark }
    | .holdClose => .stays { e with ring, reason := .close }
    | .forward => s.visitForward e ring
    | .steer r => .leaves (s.steerRead r e.req)
    | .lookUp r =>
      if (s.ring r).tracked e.req.line then s.visitForward e ring
      else match s.contextFor ahead with
        | some c => .leaves (s.takeContext c r e.req)
        | none => .stays { e with ring, reason := .context }

/-- The visit of an entry in CONFIG mode: its treatment is to forward, and it is counted in no ring (R26). -/
def State.visitConfig (s : State) (e : HoldEntry) : Visit :=
  if s.forward.length < Config.forwardPlaces then .leaves (s.decide ⟨.classifier, e.req⟩) else .stops e

def State.visit (s : State) (ahead : List HoldEntry) (e : HoldEntry) : Visit :=
  match s.mode with
  | .config => s.visitConfig e
  | .run => s.visitRun ahead e

/-- The pass, from the oldest entry to the newest (R78). -/
def State.passOver (s : State) (ahead : List HoldEntry) : List HoldEntry → State
  | [] => { s with hold := ahead, passStopped := false }
  | e :: es =>
    match s.visit ahead e with
    | .stays e' => s.passOver (ahead ++ [e']) es
    | .leaves s' => s'.passOver ahead es
    | .stops e' => { s with hold := ahead ++ e' :: es, passStopped := true }

/-- The pass that has been asked for (R80); with none asked for, none is made. -/
def State.makePass (s : State) : State :=
  if s.passAsked then { s with passAsked := false }.passOver [] s.hold else s

/-- RE_EVALUATION (R78). -/
def execReEvaluation (s : State) : Host.Outcome State Fault Refusal := running s s.makePass

/-! ### Responses (R158, R160) -/

/-- Memory responds under a tag from 0 to 31: the response to the request at memory under it, or discarded (R160). -/
def State.hostMemoryResponse (s : State) (t : HostTag) (st : MemStatus) (data : List Byte) : State :=
  match s.tagEntry t with
  | none => s
  | some e =>
    if e.atMemory then
      let s1 := s.setTag t (some { e with atMemory := false })
      match st, e.kind with
      | .okay, .read => s1.respond t .okay data
      | .okay, .write => s1.respond t .okay []
      | .error, _ | .other, _ => s1.respond t .error []
    else s

/-- MEMORY_RESPONSE (R160). -/
def execMemoryResponse (t : HostTag) (st : MemStatus) (data : List Byte) (s : State) :
    Host.Outcome State Fault Refusal :=
  running s (s.hostMemoryResponse t st data)

/-- A context carries the request under this host tag (R54). -/
def carries? (t : HostTag) : Option Context → Bool
  | some x => x.req.tag == t
  | none => false

/-- The context that carried the request is freed, and its freeing asks for a pass (R54, R158). -/
def State.freeCarrier (s : State) (t : HostTag) : State :=
  if s.contexts.toList.any (carries? t) then
    { s with contexts := mapVec (fun x => if carries? t x then none else x) s.contexts }.askPass
  else s

/-- The response that became ready first is returned: its tag is freed, the count of the ring that counted it falls,
the context that carried it is freed, and the ring's drain is tested (R158, R54, R57, R58). -/
def State.returnResponse (s : State) : State :=
  match s.ready with
  | [] => s
  | p :: ps =>
    let s1 := { s with ready := ps, hostOut := some p }.setTag p.tag none
    match (s.tagEntry p.tag).bind (·.counted) with
    | none => s1.freeCarrier p.tag
    | some r => ((s1.modRing r fun x => { x with inFlight := x.inFlight - 1 }).freeCarrier p.tag).drainTest r

/-- RESPONSE_RETURN (R158). -/
def execResponseReturn (s : State) : Host.Outcome State Fault Refusal := running s s.returnResponse

end Sys2Proof.Machine
end

