-- ==== Sys2Proof/Machine/CommandUnit.lean ====
section
/-! DEFINITION. The command unit: taking the slot loaded first, the checks common to all commands, and the answer
(R170, R171). -/

namespace Sys2Proof.Machine

/-- What the owner of a command answers: the status, the result bytes, and the state it leaves (R171). -/
structure Answer where
  status : Status
  result : List Byte
  state  : State

/-- An answer without a result (R171). -/
def answer (st : Status) (s : State) : Answer := { status := st, result := [], state := s }

/-- The command that the command unit is executing: the record of the slot that is EXECUTING; none while the command unit
is idle (R170). -/
def State.executing (s : State) : Option (SlotId × List Byte) :=
  (List.finRange 2).findSome? fun i => match s.slot i with
    | .executing rec => some (i, rec)
    | .empty | .loaded _ | .answered _ => none

/-- The command an idle command unit takes next: the record of the slot loaded first (R170). -/
def State.nextCommand (s : State) : Option (SlotId × List Byte) :=
  match s.executing, s.loadOrder with
  | none, i :: _ => match s.slot i with
    | .loaded rec => some (i, rec)
    | .empty | .executing _ | .answered _ => none
  | _, _ => none

/-- The command that the acts `part` stands for answer: the one being executed, or, with its taking in the same act, the
one that is taken next (R170, log 12). -/
def State.commandAt (s : State) : CommandPart → Option (SlotId × List Byte)
  | .whole => s.nextCommand
  | .takes => none
  | .answers => s.executing

/-- The command unit takes the slot loaded first, if its code byte is one that `mine` names: the slot becomes EXECUTING,
and no slot is taken until it is answered (R170). -/
def State.takeCommand (s : State) (mine : Option CommandCode) : State :=
  match s.nextCommand with
  | none => s
  | some (i, rec) =>
    if commandOf (byteAt rec 0) = mine then
      { s.setSlot i (.executing rec) with loadOrder := s.loadOrder.tail }
    else s

/-- The answer is stored in the slot, which becomes ANSWERED; the command unit is idle again (R170, R171). -/
def State.answerSlot (s : State) (i : SlotId) (rec : List Byte) (st : Status) (result : List Byte) : State :=
  { s.setSlot i (.answered (responseRecord (byteAt rec 0) (byteAt rec 1) st result)) with
    loadOrder := s.loadOrder.erase i }

/-- The command unit answers a command, when its code is `code`: the ring field is checked, and the owner answers (R171).
With no such command there nothing is executed. -/
def State.answerCommand (s : State) (part : CommandPart) (code : CommandCode)
    (owner : RingId → List Byte → State → Answer) : State :=
  match s.commandAt part with
  | none => s
  | some (i, rec) =>
    if commandOf (byteAt rec 0) = some code then
      match ringOf rec with
      | none => s.answerSlot i rec .badValue []
      | some r =>
        let a := owner r rec s
        a.state.answerSlot i rec a.status a.result
    else s

/-- The acts of the execution of a command of code `code` (R170, log 12). -/
def State.execute (s : State) (part : CommandPart) (code : CommandCode)
    (owner : RingId → List Byte → State → Answer) : State :=
  match part with
  | .takes => s.takeCommand (some code)
  | .whole | .answers => s.answerCommand part code owner

/-- The command unit answers UNKNOWN to a command whose code is not defined (R171). -/
def State.answerUnknown (s : State) (part : CommandPart) : State :=
  match s.commandAt part with
  | none => s
  | some (i, rec) => if commandOf (byteAt rec 0) = none then s.answerSlot i rec .unknown [] else s

/-- UNKNOWN_COMMAND (R170, R171). -/
def execUnknownCommand (s : State) (part : CommandPart := .whole) : Host.Outcome State Fault Refusal :=
  running s (match part with
    | .takes => s.takeCommand none
    | .whole | .answers => s.answerUnknown part)

end Sys2Proof.Machine
end

