-- ==== Sys2Proof/Machine/Checkpoints.lean ====
section
/-! DEFINITION. Checkpoints: CHECKPOINT, TIMER_EXPIRY, CKPT_EDGE, CHECKPOINT_MARK_WRITE_COMPLETE and SET_INTERVAL
(chapter 6). -/

namespace Sys2Proof.Machine

/-- The ring controller takes a CHECKPOINT (R87, R147). -/
def checkpointOwner (r : RingId) (_rec : List Byte) (s : State) : Answer :=
  match (s.ring r).phase.state with
  | .active => answer .started (s.startCheckpoint r .command)
  | .broken =>
    if (s.ring r).score < Config.failedScore then answer .started (s.startCheckpoint r .command)
    else answer .scoreHigh s
  | .closed => answer .badState s
  | .opening | .checkpointing | .rolling | .closing => answer .busy s

/-- CHECKPOINT (R87). -/
def execCheckpoint (s : State) (part : CommandPart := .whole) : Host.Outcome State Fault Refusal :=
  running s (s.execute part .checkpoint checkpointOwner)

/-- The expiry of a running timer whose remaining time has reached zero starts a checkpoint (R90). -/
def State.takeExpiry (s : State) (r : RingId) : State :=
  match (s.ring r).phase, (s.ring r).timer with
  | .active, some 0 => s.startCheckpoint r .timer
  | _, _ => s

/-- TIMER_EXPIRY: `elapsed` µs pass, and the expiry of the ring's timer is taken if its time has run out (R90). -/
def execTimerExpiry (r : RingId) (elapsed : Nat) (s : State) : Host.Outcome State Fault Refusal :=
  running s ((s.passTime elapsed).takeExpiry r)

/-- The rings that act on a CKPT edge: pin enable yes, and ACTIVE (R92). -/
def State.edgeRings (s : State) : List RingId :=
  (List.finRange 4).filter fun r => (s.ring r).config.pin && (s.ring r).phase == .active

/-- A recognised edge is delivered to the ring controllers, in no fixed order (R92, log 5). In every ring that is not
ACTIVE or has pin enable no it has no effect. All of them take it in one act, with no other event between one controller's
taking and another's (DESIGN CHOICE, log 32, unsafe). -/
def State.takeEdge (s : State) : State :=
  (s.freeOrder s.edgeRings).foldl (fun t r => t.startCheckpoint r .pin) (s.afterOrder s.edgeRings)

/-- One tick that samples CKPT at `level`: a rising edge is recognised when the last sample was low and this one is high,
and the first sample after a device reset recognises none (R165). -/
def State.sampleTick (s : State) (level : Bool) : State :=
  let s1 := { s.passTime 1 with ckptLevel := level }
  if s.ckptSampled && !s.ckptLevel && level then s1.takeEdge else s1

/-- CKPT_EDGE: one sample for each of `levels` (R92, R165, log 15). -/
def execCkptEdge (s : State) (levels : List Bool := [false, true]) : Host.Outcome State Fault Refusal :=
  running s (levels.foldl State.sampleTick s)

/-- A checkpoint's mark write. -/
def Owner.isCheckpointMark : Owner → Bool
  | .checkpointMark _ => true
  | _ => false

/-- CHECKPOINT_MARK_WRITE_COMPLETE (R98 to R102). -/
def execCheckpointMarkWriteComplete (t : OwnTag) (st : MemStatus) (s : State) : Host.Outcome State Fault Refusal :=
  running s (s.answered t (accessEnd st []) Owner.isCheckpointMark)

/-- The ring controller takes a SET-INTERVAL in any state: the code is stored, and in ACTIVE the timer starts again with
the full interval or stops (R91). -/
def setIntervalOwner (r : RingId) (rec : List Byte) (s : State) : Answer :=
  match intervalOf (byteAt rec 4) with
  | none => answer .badValue s
  | some code =>
    answer .done (s.modRing r fun x =>
      { x with
        config := { x.config with interval := code }
        timer := if x.phase = .active then intervalTime code else x.timer })

/-- SET_INTERVAL (R91). -/
def execSetInterval (s : State) (part : CommandPart := .whole) : Host.Outcome State Fault Refusal :=
  running s (s.execute part .setInterval setIntervalOwner)

end Sys2Proof.Machine
end

