-- ==== Sys2Proof/Machine/Device.lean ====
section
/-! DEFINITION. The device reset: DEVICE_RESET and DEVICE_RESET_END (R23, R63, R86, R164, R165, R179). -/

namespace Sys2Proof.Machine

/-- Every block in its reset state, and RESET_N low. The commands that wait and the model's own choices are not the
bridge's and stay (log 3, log 5). -/
def State.inDeviceReset (s : State) : State :=
  { State.reset with inReset := true, script := s.script, drawn := s.drawn, pending := s.pending }

/-- DEVICE_RESET (R23). -/
def execDeviceReset (s : State) : Host.Outcome State Fault Refusal := .next s.inDeviceReset

/-- RESET_N goes high: the host port becomes ready and the ticks start, with CKPT at the level given and not yet sampled;
with SSEL_N low the management port waits for its rise (R165, R179). -/
def State.leaveReset (s : State) (selectLow ckptHigh : Bool) : State :=
  if s.inReset then { s with inReset := false, ckptLevel := ckptHigh, frameWait := selectLow } else s

/-- DEVICE_RESET_END (R165). -/
def execDeviceResetEnd (selectLow : Bool) (s : State) (ckptHigh : Bool := false) :
    Host.Outcome State Fault Refusal :=
  .next (s.leaveReset selectLow ckptHigh)

end Sys2Proof.Machine
end

