-- ==== Sys2Proof/Machine/Management.lean ====
section
/-! DEFINITION. The classifier's and the ring configuration's commands: SET_MODE, WRITE_REGION, READ_REGION,
CONFIGURE_RING, READ_RING; and the frames: COMMAND_FRAME, RESPONSE_READ, STATUS_READ, EVENT_READ, UNKNOWN_FRAME_KIND
(chapters 1, 2 and 11). -/

namespace Sys2Proof.Machine

/-! ### Commands of the classifier (R27, R30, R31) -/

/-- All four rings are CLOSED (R25, R27). -/
def State.allClosed (s : State) : Bool := s.rings.toList.all fun x => x.phase == .closed

/-- The classifier takes a SET-MODE; an accepted change asks for a pass (R27). -/
def setModeOwner (_r : RingId) (rec : List Byte) (s : State) : Answer :=
  match modeOf (byteAt rec 4) with
  | none => answer .badValue s
  | some m =>
    if m = s.mode then answer .done s
    else match m with
      | .run => answer .done { s with mode := .run }.askPass
      | .config => if s.allClosed then answer .done { s with mode := .config }.askPass else answer .ringsOpen s

/-- SET_MODE (R27). -/
def execSetMode (s : State) (part : CommandPart := .whole) : Host.Outcome State Fault Refusal :=
  running s (s.execute part .setMode setModeOwner)

/-- The classifier takes a WRITE-REGION (R30). -/
def writeRegionOwner (r : RingId) (rec : List Byte) (s : State) : Answer :=
  match s.mode with
  | .run => answer .notConfig s
  | .config => match regionIndexOf rec, regionOf rec r with
    | some i, some g => answer .done (s.setRegion i g)
    | _, _ => answer .badValue s

/-- WRITE_REGION (R30). -/
def execWriteRegion (s : State) (part : CommandPart := .whole) : Host.Outcome State Fault Refusal :=
  running s (s.execute part .writeRegion writeRegionOwner)

/-- The classifier takes a READ-REGION (R31). -/
def readRegionOwner (_r : RingId) (rec : List Byte) (s : State) : Answer :=
  match regionIndexOf rec with
  | none => answer .badValue s
  | some i => { status := .done, result := regionResult i (s.region i), state := s }

/-- READ_REGION (R31). -/
def execReadRegion (s : State) (part : CommandPart := .whole) : Host.Outcome State Fault Refusal :=
  running s (s.execute part .readRegion readRegionOwner)

/-! ### Commands of a ring's configuration and status (R3, R21) -/

/-- The ring controller takes a CONFIGURE-RING: in CLOSED only, and only with parameters that pass (R3). -/
def configureOwner (r : RingId) (rec : List Byte) (s : State) : Answer :=
  if (s.ring r).phase = .closed then
    match configOf rec with
    | none => answer .badValue s
    | some c => answer .done (s.modRing r fun x => { x.zeroed with config := c })
  else answer .badState s

/-- CONFIGURE_RING (R3). -/
def execConfigureRing (s : State) (part : CommandPart := .whole) : Host.Outcome State Fault Refusal :=
  running s (s.execute part .configureRing configureOwner)

/-- The ring controller takes a READ-RING in any state (R21). -/
def readRingOwner (r : RingId) (_rec : List Byte) (s : State) : Answer :=
  { status := .done, result := ringResult (s.ring r), state := s }

/-- READ_RING (R21, R183). -/
def execReadRing (s : State) (part : CommandPart := .whole) : Host.Outcome State Fault Refusal :=
  running s (s.execute part .readRing readRingOwner)

/-! ### Frames (R166 to R169, R172 to R177) -/

/-- The bytes driven on SDO in a frame of `bytes` body bytes: a zero for the kind byte, the record, then zeros (R166). -/
def shifted (record : List Byte) (bytes : Nat) : List Byte := 0 :: padTo bytes record

/-- A frame acts, unless the port still waits for the rise of SSEL_N after a device reset, when this frame is what is left
of the abandoned one (R179, log 14), or a read frame is in progress, since frames do not overlap (R167). -/
def State.whole (s : State) (act : State → State) : State :=
  if s.frameWait then { s with frameWait := false }
  else match s.frame with
    | none => act s
    | some _ => s

/-- A COMMAND frame with a whole record loads an EMPTY slot, or sets the rejected flag of a slot that is not EMPTY; a
short one is discarded (R168, R169). -/
def State.loadCommand (s : State) (i : SlotId) (body : List Byte) : State :=
  let s1 := { s with sdo := shifted [] body.length }
  if body.length < 32 then s1
  else match s1.slot i with
    | .empty => { s1.setSlot i (.loaded (body.take 32)) with loadOrder := s1.loadOrder ++ [i] }
    | .loaded _ | .executing _ | .answered _ => s1.setRejected i true

/-- COMMAND_FRAME (R168). -/
def execCommandFrame (i : SlotId) (body : List Byte) (s : State) : Host.Outcome State Fault Refusal :=
  running s (s.whole fun t => t.loadCommand i body)

/-- The kind byte of a RESPONSE frame is complete (R172). -/
def State.responseFrame (s : State) (i : SlotId) : Frame :=
  match s.slot i with
  | .answered response => .response i response true
  | .empty | .loaded _ | .executing _ => .response i notReadyRecord false

/-- The kind byte of a STATUS frame is complete (R173). -/
def State.statusFrame (s : State) : Frame :=
  .status (statusRecord s) (s.rejected.get 0) (s.rejected.get 1) s.overrun

/-- The kind byte of an EVENT frame is complete (R177). -/
def State.eventFrame (s : State) : Frame :=
  match s.events with
  | [] => .event noEventRecord false
  | e :: _ => .event (eventRecord e) true

/-- The record a read frame delivers. -/
def Frame.record : Frame → List Byte
  | .response _ record _ | .status record .. | .event record _ => record

/-- What the completion of a read frame does, at the rise of SSEL_N (R172, R174, R177). -/
def Frame.completed : Frame → State → State
  | .response i _ true, s => s.setSlot i .empty
  | .response _ _ false, s => s
  | .status _ r0 r1 o, s =>
    let s1 := if r0 then s.setRejected 0 false else s
    let s2 := if r1 then s1.setRejected 1 false else s1
    if o then { s2 with overrun := false } else s2
  | .event _ true, s => { s with events := s.events.tail }
  | .event _ false, s => s

/-- A read frame ends after `bytes` whole body bytes: completed, or cut short without effect (R167). -/
def State.endFrame (s : State) (f : Frame) (bytes : Nat) : State :=
  let s1 := { s with frame := none, sdo := shifted f.record bytes }
  if f.record.length ≤ bytes then f.completed s1 else s1

/-- The read frame in progress is of the same kind (and slot) as `f`. -/
def Frame.sameKind : Frame → Frame → Bool
  | .response i _ _, .response j _ _ => i == j
  | .status .., .status .. => true
  | .event .., .event .. => true
  | _, _ => false

/-- The acts of a read frame (R167): the frame `f` is taken when its kind byte is complete, and acts when it ends. -/
def State.readFrame (s : State) (f : State → Frame) : FramePart → State
  | .whole bytes => s.whole fun t => t.endFrame (f t) bytes
  | .kindByte => if s.frameWait then s else match s.frame with
    | none => { s with frame := some (f s) }
    | some _ => s
  | .ends bytes =>
    if s.frameWait then { s with frameWait := false }
    else match s.frame with
      | none => s
      | some g => if g.sameKind (f s) then s.endFrame g bytes else s

/-- RESPONSE_READ (R172). -/
def execResponseRead (i : SlotId) (part : FramePart) (s : State) : Host.Outcome State Fault Refusal :=
  running s (s.readFrame (fun t => t.responseFrame i) part)

/-- STATUS_READ (R173, R174). -/
def execStatusRead (part : FramePart) (s : State) : Host.Outcome State Fault Refusal :=
  running s (s.readFrame State.statusFrame part)

/-- EVENT_READ (R177). -/
def execEventRead (part : FramePart) (s : State) : Host.Outcome State Fault Refusal :=
  running s (s.readFrame State.eventFrame part)

/-- UNKNOWN_FRAME_KIND: the frame is ignored and zeros are driven (R166). -/
def execUnknownFrameKind (kind : Byte) (bytes : Nat) (s : State) : Host.Outcome State Fault Refusal :=
  running s (if kindDefined kind then s else s.whole fun t => { t with sdo := shifted [] bytes })

end Sys2Proof.Machine
end

