-- ==== Sys2Proof/Machine/MemoryPort.lean ====
section
/-! DEFINITION. The memory port: ARBITER_GRANT, OWN_ACCESS_TIMEOUT and ORPHAN_RESPONSE (chapter 10). -/

namespace Sys2Proof.Machine

/-! ### The arbiter (R162) -/

/-- The order in which the classes are searched: cyclic, starting after the class granted last (R162). -/
def ArbClass.searched : ArbClass → List ArbClass
  | .host => [.journal, .service, .host]
  | .journal => [.service, .host, .journal]
  | .service => [.host, .journal, .service]

/-- A class is eligible when it holds a request that may be issued; the own classes need a free own tag (R162). -/
def State.eligible (s : State) : ArbClass → Bool
  | .host => !s.forward.isEmpty
  | .journal => !s.journal.isEmpty && s.freeOwnTag.isSome
  | .service => !s.service.isEmpty && s.freeOwnTag.isSome

/-- The class granted: the first eligible one in cyclic order (R162). -/
def State.granted (s : State) : Option ArbClass := s.lastClass.searched.find? s.eligible

/-- The head of the forward buffer goes to memory under its host tag (R160, R162). -/
def State.issueHost (s : State) : State :=
  match s.forward with
  | [] => s
  | q :: qs =>
    let s1 := { s with
      forward := qs
      lastClass := .host
      memOut := some
        { tag := Fin.castLE (by omega) q.tag, kind := q.kind, addr := q.addr, size := q.size, data := q.data,
          enables := q.enables } }
    let s2 := match s1.tagEntry q.tag with
      | none => s1
      | some e => s1.setTag q.tag (some { e with atMemory := true })
    s2.fillRoom

/-- The access of a context is issued under its own tag (R41, R43). -/
def State.noteIssued (s : State) (o : Owner) (t : OwnTag) : State :=
  match o.ctx? with
  | none => s
  | some c => match s.ctx c with
    | none => s
    | some x => s.setCtx c (some { x with access := .issued t })

/-- An own access is issued under an own tag, which becomes in use with its owner and a timer of 1,000 µs (R161). -/
def State.issueOwn (s : State) (a : Access) (t : OwnTag) (cls : ArbClass) : State :=
  ({ s with
    lastClass := cls
    memOut := some
      { tag := Fin.natAdd 32 t, kind := a.kind, addr := a.addr, size := a.size, data := a.data,
        enables := a.data.map fun _ => true } }.setOwnTag t (.inUse (some a.owner) Config.ownTimeout)).noteIssued
    a.owner t

/-- The memory port can take a request: the class granted issues its first request (R162). -/
def State.grant (s : State) : State :=
  match s.granted with
  | none => s
  | some .host => s.issueHost
  | some .journal => match s.journal, s.freeOwnTag with
    | a :: as, some t => { s with journal := as }.issueOwn a t .journal
    | _, _ => s
  | some .service => match s.service, s.freeOwnTag with
    | a :: as, some t => { s with service := as }.issueOwn a t .service
    | _, _ => s

/-- ARBITER_GRANT (R162). With no class eligible nothing is issued. -/
def execArbiterGrant (s : State) : Host.Outcome State Fault Refusal := running s s.grant

/-! ### Timeouts and responses without an owner (R62, R161, R163) -/

/-- The timeout of an own tag whose 1,000 µs have passed: the tag is quarantined, and the owner, if there is one, gets
TIMEOUT (R163). -/
def State.ownTimeout (s : State) (t : OwnTag) : State :=
  match s.ownTag t with
  | .inUse o 0 =>
    let s1 := s.setOwnTag t .quarantined
    match o with
    | some o => s1.deliver o .failed
    | none => s1
  | .inUse _ (_ + 1) | .free | .quarantined => s

/-- OWN_ACCESS_TIMEOUT: `elapsed` µs pass, and the timeout of own tag `32 + t` is taken if it has expired (R163). -/
def execOwnAccessTimeout (t : OwnTag) (elapsed : Nat) (s : State) : Host.Outcome State Fault Refusal :=
  running s ((s.passTime elapsed).ownTimeout t)

/-- A response for an own tag held by no owner: discarded, and the tag freed (R62, R163). -/
def State.orphanAnswered (s : State) (t : OwnTag) : State :=
  match s.ownTag t with
  | .inUse none _ | .quarantined => s.setOwnTag t .free
  | .inUse (some _) _ | .free => s

/-- ORPHAN_RESPONSE: status and data reach no owner and no score (R62, R163). -/
def execOrphanResponse (t : OwnTag) (_st : MemStatus) (_data : List Byte) (s : State) :
    Host.Outcome State Fault Refusal :=
  running s (s.orphanAnswered t)

end Sys2Proof.Machine
end

