-- ==== Sys2Proof/Machine/Opens.lean ====
section
/-! DEFINITION. Opening, closing and resetting a ring: OPEN_RING, FRESH_MARK_WRITE_COMPLETE, SEARCH_READ_COMPLETE,
WALK_READ_COMPLETE, CLOSE_RING and RESET_RING (chapter 8). -/

namespace Sys2Proof.Machine

/-- The checks of an OPEN-RING in their order: the answer of the first that applies, and none when the open is accepted
(R127). -/
def openRefusal (s : State) (r : RingId) : Option Status :=
  let x := s.ring r
  match x.phase.state with
  | .active | .broken => some .badState
  | .opening | .checkpointing | .rolling | .closing => some .busy
  | .closed =>
    if s.mode = .config then some .notRun
    else if x.config.cells = 0 then some .badValue
    else if Config.failedScore ≤ x.score then some .scoreHigh
    else none

/-- The ring controller takes an OPEN-RING (R127). -/
def openOwner (r : RingId) (rec : List Byte) (s : State) : Answer :=
  match openModeOf (byteAt rec 4) with
  | none => answer .badValue s
  | some mode => match openRefusal s r with
    | some st => answer st s
    | none => answer .started (s.startOpen r mode)

/-- OPEN_RING (R127). -/
def execOpenRing (s : State) (part : CommandPart := .whole) : Host.Outcome State Fault Refusal :=
  running s (s.execute part .openRing openOwner)

/-- A FRESH mark write. -/
def Owner.isFreshMark : Owner → Bool
  | .freshMark _ => true
  | _ => false

/-- FRESH_MARK_WRITE_COMPLETE (R130, R131). -/
def execFreshMarkWriteComplete (t : OwnTag) (st : MemStatus) (s : State) : Host.Outcome State Fault Refusal :=
  running s (s.answered t (accessEnd st []) Owner.isFreshMark)

/-- A header read of the search. -/
def Owner.isSearch : Owner → Bool
  | .searchHeader .. => true
  | _ => false

/-- SEARCH_READ_COMPLETE (R132, R133). -/
def execSearchReadComplete (t : OwnTag) (st : MemStatus) (data : List Byte) (s : State) :
    Host.Outcome State Fault Refusal :=
  running s (s.answered t (accessEnd st data) Owner.isSearch)

/-- A header or image read of the walk. -/
def Owner.isWalk : Owner → Bool
  | .walkHeader _ | .walkImage _ => true
  | _ => false

/-- WALK_READ_COMPLETE (R134, R135). -/
def execWalkReadComplete (t : OwnTag) (st : MemStatus) (data : List Byte) (s : State) :
    Host.Outcome State Fault Refusal :=
  running s (s.answered t (accessEnd st data) Owner.isWalk)

/-- The ring controller takes a CLOSE-RING (R137, R147). -/
def closeOwner (r : RingId) (_rec : List Byte) (s : State) : Answer :=
  match (s.ring r).phase.state with
  | .active => answer .started (s.startClose r)
  | .broken =>
    if (s.ring r).score < Config.failedScore then answer .started (s.startClose r) else answer .scoreHigh s
  | .closed => answer .badState s
  | .opening | .checkpointing | .rolling | .closing => answer .busy s

/-- CLOSE_RING (R137). -/
def execCloseRing (s : State) (part : CommandPart := .whole) : Host.Outcome State Fault Refusal :=
  running s (s.execute part .closeRing closeOwner)

/-- The ring controller takes a RESET-RING in every state (R141). -/
def resetOwner (r : RingId) (_rec : List Byte) (s : State) : Answer := answer .done (s.resetRing r)

/-- RESET_RING (R141). -/
def execResetRing (s : State) (part : CommandPart := .whole) : Host.Outcome State Fault Refusal :=
  running s (s.execute part .resetRing resetOwner)

end Sys2Proof.Machine
end

