-- ==== Sys2Proof/Machine/Rollbacks.lean ====
section
/-! DEFINITION. Rollback and read steering: ROLLBACK, RESTORE_READ_COMPLETE, RESTORE_WRITE_COMPLETE,
ROLLBACK_MARK_WRITE_COMPLETE and STEERING_READ_COMPLETE (chapter 7). -/

namespace Sys2Proof.Machine

/-- The ring controller takes a ROLLBACK (R105, R147). -/
def rollbackOwner (r : RingId) (_rec : List Byte) (s : State) : Answer :=
  match (s.ring r).phase.state with
  | .active => answer .started (s.startRollback r)
  | .broken | .closed => answer .badState s
  | .opening | .checkpointing | .rolling | .closing => answer .busy s

/-- ROLLBACK (R105). -/
def execRollback (s : State) (part : CommandPart := .whole) : Host.Outcome State Fault Refusal :=
  running s (s.execute part .rollback rollbackOwner)

/-- A restore header or image read. -/
def Owner.isRestoreRead : Owner → Bool
  | .restoreHeader _ | .restoreImage _ => true
  | _ => false

/-- RESTORE_READ_COMPLETE (R108, R109). -/
def execRestoreReadComplete (t : OwnTag) (st : MemStatus) (data : List Byte) (s : State) :
    Host.Outcome State Fault Refusal :=
  running s (s.answered t (accessEnd st data) Owner.isRestoreRead)

/-- A restore write. -/
def Owner.isRestoreWrite : Owner → Bool
  | .restoreWrite _ => true
  | _ => false

/-- RESTORE_WRITE_COMPLETE (R110, R111). -/
def execRestoreWriteComplete (t : OwnTag) (st : MemStatus) (s : State) : Host.Outcome State Fault Refusal :=
  running s (s.answered t (accessEnd st []) Owner.isRestoreWrite)

/-- A rollback's mark write. -/
def Owner.isRollbackMark : Owner → Bool
  | .rollbackMark _ => true
  | _ => false

/-- ROLLBACK_MARK_WRITE_COMPLETE (R115 to R119). -/
def execRollbackMarkWriteComplete (t : OwnTag) (st : MemStatus) (s : State) : Host.Outcome State Fault Refusal :=
  running s (s.answered t (accessEnd st []) Owner.isRollbackMark)

/-- A steering header or image read. -/
def Owner.isSteering : Owner → Bool
  | .steerHeader .. | .steerImage .. => true
  | _ => false

/-- STEERING_READ_COMPLETE (R122 to R124). -/
def execSteeringReadComplete (t : OwnTag) (st : MemStatus) (data : List Byte) (s : State) :
    Host.Outcome State Fault Refusal :=
  running s (s.answered t (accessEnd st data) Owner.isSteering)

end Sys2Proof.Machine
end

