-- ==== Sys2Proof/Machine/WriteContexts.lean ====
section
/-! DEFINITION. The write-ahead path: PRE_READ_COMPLETE, RESERVATION_REQUEST, IMAGE_WRITE_COMPLETE,
HEADER_WRITE_COMPLETE and DURABILITY_REPORT (chapters 1 and 3). -/

namespace Sys2Proof.Machine

/-! ### Own accesses of a context -/

/-- A pre-read. -/
def Owner.isPreRead : Owner → Bool
  | .preRead _ => true
  | _ => false

/-- PRE_READ_COMPLETE (R44, R45). -/
def execPreReadComplete (t : OwnTag) (st : MemStatus) (data : List Byte) (s : State) :
    Host.Outcome State Fault Refusal :=
  running s (s.answered t (accessEnd st data) Owner.isPreRead)

/-- An image write. -/
def Owner.isImageWrite : Owner → Bool
  | .imageWrite _ => true
  | _ => false

/-- IMAGE_WRITE_COMPLETE (R49, R51). -/
def execImageWriteComplete (t : OwnTag) (st : MemStatus) (s : State) : Host.Outcome State Fault Refusal :=
  running s (s.answered t (accessEnd st []) Owner.isImageWrite)

/-- A PRE-IMAGE header write. -/
def Owner.isHeaderWrite : Owner → Bool
  | .headerWrite _ => true
  | _ => false

/-- HEADER_WRITE_COMPLETE (R50, R51). -/
def execHeaderWriteComplete (t : OwnTag) (st : MemStatus) (s : State) : Host.Outcome State Fault Refusal :=
  running s (s.answered t (accessEnd st []) Owner.isHeaderWrite)

/-! ### Reservations (R11 to R17, R46 to R48) -/

/-- The ring's own state after a granted reservation, steps 1, 2, 4 and 5 of R12. -/
def Ring.grantRecord (x : Ring) (line : Addr) : Ring :=
  { x.offer line x.produce with
    nextSeq := x.nextSeq + 1, produce := x.config.nextCell x.produce, live := x.live + 1,
    outstanding := x.outstanding ++ [{ seq := x.nextSeq, cell := x.produce, durable := false }] }

/-- The high-water test after a granted reservation (R17). -/
def State.highWaterTest (s : State) (r : RingId) : State :=
  let x := s.ring r
  if x.fillHighDue then (s.setRing r { x with highArmed := false }).raise (.fillHigh r x.live) else s

/-- The reservation is granted: the ring takes the record, and the context goes on to its image write (R12, R46, R49). -/
def State.grantReservation (s : State) (c : CtxId) (r : RingId) (y : Context) : State :=
  let x := s.ring r
  let v : Reserved := { seq := x.nextSeq, cell := x.produce, tag := x.config.tag, epoch := x.epoch }
  let s1 := (s.setRing r (x.grantRecord y.req.line)).highWaterTest r
  (s1.setCtx c (some { y with reserved := some v, phase := .imageWrite, access := .waiting })).requestImage c r v
    (y.image.getD [])

/-- The answer UNJOURNALED: the context discards its image, stops journaling and forwards (R48). -/
def State.unjournaled (s : State) (c : CtxId) : State :=
  match s.ctx c with
  | none => s
  | some y => (s.setCtx c (some { y with image := none, stopped := true })).forwardCtx c

/-- The answer FULL under REFUSE: RING-FULL is raised once while armed, and the host write is answered ERROR
(R14, R47). -/
def State.reservationFull (s : State) (c : CtxId) (r : RingId) : State :=
  let x := s.ring r
  (if x.fullArmed then (s.setRing r { x with fullArmed := false }).raise (.ringFull r) else s).answerCtx c

/-- A PRE-IMAGE reservation is taken in ACTIVE or in a DRAIN sub-phase of CHECKPOINTING, ROLLING or CLOSING (R11);
exhaustion is tested before the fill level. -/
def State.reserveIn (s : State) (c : CtxId) (r : RingId) (y : Context) : State :=
  let x := s.ring r
  if x.exhausted then (s.breakRing r .sequence).unjournaled c
  else if x.live + 2 ≤ x.config.cells then s.grantReservation c r y
  else match x.config.policy with
    | .refuse => s.reservationFull c r
    | .breaks => (s.breakRing r .full).unjournaled c

/-- The ring controller takes the reservation request of a context in RESERVE (R11). A context with journaling stopped
is answered UNJOURNALED in every state. The states R11 does not list are never met (R58) and answer UNJOURNALED
(DEDUCED, log 20). -/
def State.takeReservation (s : State) (c : CtxId) : State :=
  match s.ctx c with
  | none => s
  | some y =>
    if y.phase = .reserve then
      match y.ring with
      | none => s.unjournaled c
      | some r =>
        if y.stopped then s.unjournaled c
        else match (s.ring r).phase with
          | .active | .checkpointingDrain | .rollingDrain | .closingDrain => s.reserveIn c r y
          | .broken | .closed => s.unjournaled c
          | .openingDrain | .openingScan | .openingMark | .checkpointingMark | .rollingRestore | .rollingMark =>
            s.unjournaled c
    else s

/-- RESERVATION_REQUEST (R11). -/
def execReservationRequest (c : CtxId) (s : State) : Host.Outcome State Fault Refusal := running s (s.takeReservation c)

/-! ### The durable frontier (R18, R19, R52) -/

/-- The ring's list and frontier after a durability report (R18, R19). A report that names no entry changes nothing. -/
def Ring.takeReport (x : Ring) (seq : Seq) : Ring :=
  if x.outstanding.any fun e => e.seq == seq then
    let marked := setDurable seq x.outstanding
    { x with
      outstanding := afterDurableHead marked
      frontier := match (durableHead marked).getLast? with
        | some e => e.seq
        | none => x.frontier }
  else x

/-- A context that a frontier releases: in AWAIT-FRONTIER, of the ring, its record at or below the frontier (R52). -/
def Context.passedBy (x : Context) (r : RingId) (frontier : Seq) : Bool :=
  x.ring == some r && x.phase == .awaitFrontier && x.reserved.any fun v => v.seq ≤ frontier

/-- The pool is told the frontier: every context it has passed moves to FORWARDED at once (R19, R52). -/
def State.frontierRise (s : State) (r : RingId) : State :=
  let f := (s.ring r).frontier
  let released := s.writesOf (·.passedBy r f)
  { s with
    contexts := mapVec (Option.map fun x : Context => if x.passedBy r f then { x with phase := .forwarded } else x)
      s.contexts }.decideAll released

/-- The ring controller takes a durability report that a context has sent (R18, R19, R52). -/
def State.takeReport (s : State) (r : RingId) (seq : Seq) : State :=
  let p : Report := { ring := r, seq }
  if s.reports.contains p then
    let x := s.ring r
    let s1 := { s with reports := s.reports.erase p }.setRing r (x.takeReport seq)
    if (x.takeReport seq).frontier = x.frontier then s1 else s1.frontierRise r
  else s

/-- DURABILITY_REPORT (R19). A report that no context has sent does not occur. -/
def execDurabilityReport (r : RingId) (seq : Seq) (s : State) : Host.Outcome State Fault Refusal :=
  running s (s.takeReport r seq)

end Sys2Proof.Machine
end

