-- ==== Sys2Proof/Machine/Dispatch.lean ====
section
/-! DEFINITION. The meaning of every command, one arm per row of spec/opcode_table.json. -/

namespace Sys2Proof.Machine

def exec (i : Instr) (s : State) : Host.Outcome State Fault Refusal :=
  match i with
  | .hostRequest q => Sys2Proof.Machine.execHostRequest q s
  | .reEvaluation => Sys2Proof.Machine.execReEvaluation s
  | .memoryResponse t st d => Sys2Proof.Machine.execMemoryResponse t st d s
  | .responseReturn => Sys2Proof.Machine.execResponseReturn s
  | .arbiterGrant => Sys2Proof.Machine.execArbiterGrant s
  | .ownAccessTimeout t n => Sys2Proof.Machine.execOwnAccessTimeout t n s
  | .orphanResponse t st d => Sys2Proof.Machine.execOrphanResponse t st d s
  | .preReadComplete t st d => Sys2Proof.Machine.execPreReadComplete t st d s
  | .reservationRequest c => Sys2Proof.Machine.execReservationRequest c s
  | .imageWriteComplete t st => Sys2Proof.Machine.execImageWriteComplete t st s
  | .headerWriteComplete t st => Sys2Proof.Machine.execHeaderWriteComplete t st s
  | .durabilityReport r q => Sys2Proof.Machine.execDurabilityReport r q s
  | .checkpoint p => Sys2Proof.Machine.execCheckpoint s p
  | .timerExpiry r n => Sys2Proof.Machine.execTimerExpiry r n s
  | .ckptEdge b => Sys2Proof.Machine.execCkptEdge s b
  | .checkpointMarkWriteComplete t st => Sys2Proof.Machine.execCheckpointMarkWriteComplete t st s
  | .rollback p => Sys2Proof.Machine.execRollback s p
  | .restoreReadComplete t st d => Sys2Proof.Machine.execRestoreReadComplete t st d s
  | .restoreWriteComplete t st => Sys2Proof.Machine.execRestoreWriteComplete t st s
  | .rollbackMarkWriteComplete t st => Sys2Proof.Machine.execRollbackMarkWriteComplete t st s
  | .steeringReadComplete t st d => Sys2Proof.Machine.execSteeringReadComplete t st d s
  | .openRing p => Sys2Proof.Machine.execOpenRing s p
  | .freshMarkWriteComplete t st => Sys2Proof.Machine.execFreshMarkWriteComplete t st s
  | .searchReadComplete t st d => Sys2Proof.Machine.execSearchReadComplete t st d s
  | .walkReadComplete t st d => Sys2Proof.Machine.execWalkReadComplete t st d s
  | .closeRing p => Sys2Proof.Machine.execCloseRing s p
  | .resetRing p => Sys2Proof.Machine.execResetRing s p
  | .setMode p => Sys2Proof.Machine.execSetMode s p
  | .writeRegion p => Sys2Proof.Machine.execWriteRegion s p
  | .readRegion p => Sys2Proof.Machine.execReadRegion s p
  | .configureRing p => Sys2Proof.Machine.execConfigureRing s p
  | .readRing p => Sys2Proof.Machine.execReadRing s p
  | .setInterval p => Sys2Proof.Machine.execSetInterval s p
  | .unknownCommand p => Sys2Proof.Machine.execUnknownCommand s p
  | .commandFrame slot b => Sys2Proof.Machine.execCommandFrame slot b s
  | .responseRead slot p => Sys2Proof.Machine.execResponseRead slot p s
  | .statusRead p => Sys2Proof.Machine.execStatusRead p s
  | .eventRead p => Sys2Proof.Machine.execEventRead p s
  | .unknownFrameKind k n => Sys2Proof.Machine.execUnknownFrameKind k n s
  | .deviceReset => Sys2Proof.Machine.execDeviceReset s
  | .deviceResetEnd b h => Sys2Proof.Machine.execDeviceResetEnd b s h

end Sys2Proof.Machine
end

