-- ==== Sys2Proof/Machine/Step.lean ====
section
/-! DEFINITION. One step: the command at the front of the queue, or one tick of the time base on an empty queue. -/

namespace Sys2Proof.Machine

/-- One 1 µs tick of the time base; no tick runs while RESET_N is low (R163, R165, log 2). -/
def State.tick (s : State) : State := if s.inReset then s else s.passTime 1

/-- The command at the front of the queue is executed with the queue's rest. On an empty queue the block does not only
idle: a tick of its time base passes (DESIGN CHOICE, log 2). -/
def step (s : State) : Host.Outcome State Fault Refusal :=
  match s.pending with
  | [] => .next s.tick
  | c :: rest => exec c { s with pending := rest }

/-- The command that a word spells is put at the front of the queue; a word that spells none changes nothing. -/
def State.withFetchWord (s : State) (nbits w : Nat) : State :=
  match decodeTableWord nbits w with
  | none => s
  | some c => { s with pending := c :: s.pending }

end Sys2Proof.Machine
end

