-- ==== Sys2Proof/Safety.lean ====
section
/-! DEFINITION. What a safe run keeps: the laws the spec states over the whole bridge, as properties of one state, and
the relations between a state and the next that the spec's promises speak of. -/

namespace Sys2Proof.Safety

open Sys2Proof.Machine

/-! ### Own accesses of a cell (R1) -/

/-- The read of a cell's header: 32 bytes at base + 128 × cell. -/
def headerRead (owner : Owner) (c : RingConfig) (cell : Nat) : Access :=
  { owner, kind := .read, addr := c.base + BitVec.ofNat 40 (128 * cell), size := 2, data := [] }

/-- The read of a cell's image: 64 bytes at base + 128 × cell + 64. -/
def imageRead (owner : Owner) (c : RingConfig) (cell : Nat) : Access :=
  { owner, kind := .read, addr := c.base + BitVec.ofNat 40 (128 * cell) + 64, size := 3, data := [] }

/-- The write of a cell's header: 32 bytes at base + 128 × cell. -/
def headerWrite (owner : Owner) (c : RingConfig) (cell : Nat) (data : List Byte) : Access :=
  { owner, kind := .write, addr := c.base + BitVec.ofNat 40 (128 * cell), size := 2, data }

/-- The write of a cell's image: 64 bytes at base + 128 × cell + 64. -/
def imageWrite (owner : Owner) (c : RingConfig) (cell : Nat) (data : List Byte) : Access :=
  { owner, kind := .write, addr := c.base + BitVec.ofNat 40 (128 * cell) + 64, size := 3, data }

/-! ### Laws over one state -/

/-- The capacity laws (R64, R74, R159, R175), and that a decided request waits only while the forward buffer is full
(R159). The pool of 8 contexts and the pools of 32 tags cannot be exceeded: their types have no more places. -/
def CapacityLaw (s : State) : Prop :=
  s.hold.length ≤ 16 ∧ s.forward.length ≤ 4 ∧ (s.decided ≠ [] → s.forward.length = 4) ∧ s.events.length ≤ 32 ∧
    ∀ r, (s.ring r).touched.length ≤ 256

/-- A ring's fault score lies between 0 and 255, and a ring whose score is 160 or above is BROKEN or CLOSED (R148). -/
def ScoreLaw (s : State) : Prop :=
  ∀ r, (s.ring r).score ≤ 255 ∧
    (160 ≤ (s.ring r).score → (s.ring r).phase = .broken ∨ (s.ring r).phase = .closed)

/-- The record in a slot, of a command or of an answer; none in an EMPTY slot. -/
def record? : Slot → Option (List Byte)
  | .empty => none
  | .loaded rec | .executing rec | .answered rec => some rec

/-- The slot is LOADED. -/
def isLoaded : Slot → Bool
  | .loaded _ => true
  | .empty | .executing _ | .answered _ => false

/-- The slot is EXECUTING. -/
def isExecuting : Slot → Bool
  | .executing _ => true
  | .empty | .loaded _ | .answered _ => false

/-- The load order names the LOADED slots, each once; at most one slot is EXECUTING, so that the command unit executes one
command at a time; every record in a slot has 32 bytes (R168, R170, R171). A RESPONSE read in progress that took an answer
finds the same answer in the slot when it ends (R172). -/
def SlotLaw (s : State) : Prop :=
  (∀ i, i ∈ s.loadOrder ↔ isLoaded (s.slot i) = true) ∧ s.loadOrder.Nodup ∧
  (∀ i j, isExecuting (s.slot i) = true → isExecuting (s.slot j) = true → i = j) ∧
  (∀ i, ∀ rec ∈ record? (s.slot i), rec.length = 32) ∧
  ∀ i rec, s.frame = some (.response i rec true) → s.slot i = .answered rec

/-- While the device mode is CONFIG, all four rings are CLOSED (R25). -/
def ModeLaw (s : State) : Prop := s.mode = .config → ∀ r, (s.ring r).phase = .closed

/-- What each ring state says of the epoch and of the fields that belong to an operation (R9, R72, R73, R89; the state
tables of chapters 6, 7 and 8): the epoch is 0 in OPENING, and 1 or more in ACTIVE, CHECKPOINTING, ROLLING, CLOSING and
BROKEN, and no mark that could open an epoch carries 0. -/
def Settled (x : Ring) : Prop :=
  (x.timer ≠ none → x.phase = .active) ∧
  (x.reason ≠ none → x.phase = .checkpointingDrain ∨ x.phase = .checkpointingMark) ∧
  (x.cursor ≠ none → x.phase = .rollingRestore) ∧
  (x.openMode ≠ none → x.phase.state = .opening) ∧
  (x.phase = .closed ∨ x.phase = .broken ∨ x.phase.state = .opening →
    x.outstanding = [] ∧ x.touched = [] ∧ x.complete = false) ∧
  (x.phase = .closed ∨ x.phase.state = .opening → x.highArmed = false ∧ x.fullArmed = false) ∧
  (x.phase.state = .opening → x.epoch = 0) ∧ (x.phase ≠ .closed → x.phase.state ≠ .opening → x.epoch ≠ 0) ∧
  x.mark.all (·.epoch != 0) = true ∧ x.newest.all (·.epoch != 0) = true

def SettledLaw (s : State) : Prop := ∀ r, Settled (s.ring r)

/-- The positions of a ring that is ACTIVE, CHECKPOINTING, ROLLING, CLOSING or BROKEN (R10, R13): between 1 and capacity
cells are live, the whole capacity only in a MARK sub-phase, and the produce cell follows the live set. In MARK the mark
stands in the newest cell. During an open the parts of the positions that its completion will use. -/
def Positioned (x : Ring) : Prop :=
  (x.config.cells = 0 ∨ 16 ≤ x.config.cells) ∧ (x.phase ≠ .closed → 16 ≤ x.config.cells) ∧
  (x.phase ≠ .closed → x.phase.state ≠ .opening →
    1 ≤ x.live ∧ x.live ≤ x.config.cells ∧ (x.phase.sub ≠ .mark → x.live + 1 ≤ x.config.cells) ∧
      x.produce = (x.release + x.live) % x.config.cells) ∧
  (x.phase = .checkpointingMark ∨ x.phase = .rollingMark →
    2 ≤ x.live ∧ ∃ m, x.mark = some m ∧ m.cell = (x.release + x.live - 1) % x.config.cells) ∧
  (x.phase = .openingMark → x.produce = 1 ∧ ∃ m, x.mark = some m ∧ m.cell = 0) ∧
  (x.phase.state = .opening → x.walkCell ≠ none → x.walkCount + 2 < x.config.cells)

def LiveLaw (s : State) : Prop := ∀ r, Positioned (s.ring r)

/-- Where host tag `t` stands, counted: in the hold queue, in a write context that has not yet forwarded or answered,
steered by a ring controller, decided, in the forward buffer, at memory, or answered and not yet returned. -/
def places (s : State) (t : HostTag) : Nat :=
  s.hold.countP (fun e => e.req.tag == t) +
  s.contexts.toList.countP (fun
    | some x => x.req.tag == t && x.phase != .forwarded && x.phase != .answering
    | none => false) +
  (s.rings.toList.map fun x => x.steered.countP fun q => q.req.tag == t).sum +
  s.decided.countP (fun d => d.req.tag == t) + s.forward.countP (fun q => q.tag == t) +
  (if (s.tagEntry t).any (·.atMemory) then 1 else 0) + s.ready.countP fun p => p.tag == t

/-- The host tags whose entry names ring `r` as its counted ring. -/
def countedFor (s : State) (r : RingId) : Nat :=
  s.tags.toList.countP fun
    | some e => e.counted == some r
    | none => false

/-- Every outstanding host request stands in exactly one place and a free tag in none, so that it gets exactly one
response (R157); a held request is counted in no ring (R74); and the in-flight write count of a ring is the number of
outstanding writes counted for it (R57). -/
def TrafficLaw (s : State) : Prop :=
  (∀ t, places s t = if (s.tagEntry t).isSome then 1 else 0) ∧
  (∀ e ∈ s.hold, (s.tagEntry e.req.tag).bind (·.counted) = none) ∧
  ∀ r, (s.ring r).inFlight = countedFor s r

/-- A write context holds an outstanding request that is counted for a ring, its own ring while it belongs to one; no two
contexts hold one tag, and no context belongs to a ring that is CLOSED, OPENING, in MARK, or ROLLING past its drain (R41,
R57, R58, R61). A held entry that belongs to a ring is a write, and belongs to no ring in OPENING or ROLLING (R82). -/
def BelongingLaw (s : State) : Prop :=
  (∀ c x, s.ctx c = some x → ∃ e q, s.tagEntry x.req.tag = some e ∧ e.counted = some q ∧
    ∀ r, x.ring = some r → r = q) ∧
  (∀ c d x y, s.ctx c = some x → s.ctx d = some y → x.req.tag = y.req.tag → c = d) ∧
  (∀ c x r, s.ctx c = some x → x.ring = some r →
    (s.ring r).phase ≠ .closed ∧ (s.ring r).phase.state ≠ .opening ∧ (s.ring r).phase ≠ .rollingRestore ∧
      (s.ring r).phase ≠ .rollingMark ∧ (s.ring r).phase ≠ .checkpointingMark) ∧
  (∀ e ∈ s.hold, e.reason ≠ .line → e.req.kind = .write) ∧
  ∀ e ∈ s.hold, ∀ r, e.belongsTo r = true → (s.ring r).phase.state ≠ .opening ∧ (s.ring r).phase.state ≠ .rolling

/-! ### Relations between a state and the next -/

/-- The ring's records and marks are numbered consistently (R8, R18, R19): a next sequence number of 0 stands for 2^64. -/
def nextNumber (x : Ring) : Nat := if x.nextSeq = 0 then 2 ^ 64 else x.nextSeq.toNat

/-- The frontier lies below the next sequence number, the outstanding records lie in order between the two, and a mark
being written carries the newest number (R18, R19, R13). -/
def Numbered (x : Ring) : Prop :=
  (x.phase ≠ .closed → x.phase.state ≠ .opening →
    x.frontier.toNat < nextNumber x ∧ (x.outstanding.map fun e => e.seq.toNat).Pairwise (· < ·) ∧
      ∀ e ∈ x.outstanding, x.frontier.toNat < e.seq.toNat ∧ e.seq.toNat < nextNumber x) ∧
  (x.phase = .checkpointingMark ∨ x.phase = .rollingMark ∨ x.phase = .openingMark →
    ∃ m, x.mark = some m ∧ m.seq.toNat + 1 = nextNumber x ∧ x.frontier.toNat < m.seq.toNat ∧
      ∀ e ∈ x.outstanding, e.seq.toNat < m.seq.toNat) ∧
  (x.phase.state = .opening → x.frontier = 0 ∧ x.outstanding = [])

def NumberLaw (s : State) : Prop := ∀ r, Numbered (s.ring r)

/-- Only ring `r` and the traffic its acts move have changed: the ports' own state, the management port and the other
rings are as they were. -/
def OnlyRing (r : RingId) (s t : State) : Prop :=
  t.inReset = s.inReset ∧ t.ckptLevel = s.ckptLevel ∧ t.ckptSampled = s.ckptSampled ∧ t.mode = s.mode ∧
  t.regions = s.regions ∧ t.tags = s.tags ∧ t.lastClass = s.lastClass ∧ t.slots = s.slots ∧ t.loadOrder = s.loadOrder ∧ t.rejected = s.rejected ∧ t.frame = s.frame ∧
  t.frameWait = s.frameWait ∧ t.hostOut = s.hostOut ∧ t.memOut = s.memOut ∧ t.sdo = s.sdo ∧ t.pending = s.pending ∧
  ∀ q, q ≠ r → t.ring q = s.ring q

end Sys2Proof.Safety
end

