-- ==== Sys2Proof/Certificates/Slice0/Obligations.lean ====
section
/-! DEFINITION. The statements for the provers: what the rules of spec/ say of the commands of the bridge, and the laws every
step keeps. An access is written as the record Sys2Proof.Safety gives it: headerRead, imageRead, headerWrite, imageWrite. -/

section

open Sys2Proof Sys2Proof.Machine Sys2Proof.Safety

/-! ### The block: steps and resets -/

/-- A step takes the command at the front of the queue and runs it with the queue's rest (log 4). -/
def Obligations.StepRunsTheFrontCommand : Prop :=
  ∀ (c : Instr) (rest : List Instr) (s : State), step { s with pending := c :: rest } = exec c { s with pending := rest }

/-- DEVICE_RESET from every state, and DEVICE_RESET_END (R4, R23, R25, R29, R63, R86, R164, R165, R179). The reset leaves
every block in its reset state, with CKPT not yet sampled; while RESET_N is low no other command has an effect, the host port
is not ready and NOTIFY is low; when RESET_N goes high the bridge leaves the reset, and with SSEL_N low it waits for SSEL_N
to rise: what is left of the frame in progress ends the wait and has no other effect. That the next frame command stands for
that rest (log 14), and that the commands that wait and the model's own script and counter stay (log 3, log 5), are the
model's choices. -/
def Obligations.DeviceResetAndItsEnd : Prop :=
  (∀ s : State, ∃ t, exec .deviceReset s = .next t ∧ t.mode = .config ∧
    (∀ i, t.region i = { enable := false, base := 0, mask := 0, cls := .pass, ring := 0 }) ∧
    (∀ r, (t.ring r).config =
        { base := 0, cells := 0, tag := 0, policy := .refuse, highWater := 0, interval := 0, pin := false } ∧
      (t.ring r).phase = .closed ∧ (t.ring r).release = 0 ∧ (t.ring r).produce = 0 ∧ (t.ring r).live = 0 ∧
      (t.ring r).nextSeq = 0 ∧ (t.ring r).epoch = 0 ∧ (t.ring r).frontier = 0 ∧ (t.ring r).outstanding = [] ∧
      (t.ring r).touched = [] ∧ (t.ring r).complete = false ∧ (t.ring r).score = 0 ∧ (t.ring r).lastCause = .none ∧
      (t.ring r).highArmed = false ∧ (t.ring r).fullArmed = false ∧ (t.ring r).inFlight = 0 ∧ (t.ring r).timer = none ∧
      (t.ring r).reason = none ∧ (t.ring r).markRetry = false ∧ (t.ring r).cursor = none ∧ (t.ring r).expected = none ∧
      (t.ring r).restored = 0 ∧ (t.ring r).restoreRetry = false ∧ (t.ring r).restoreImage = none ∧
      (t.ring r).steered = [] ∧ (t.ring r).openMode = none ∧ (t.ring r).scanPart = none ∧ (t.ring r).newest = none ∧
      (t.ring r).walkCell = none ∧ (t.ring r).searchCell = 0 ∧ (t.ring r).scanReads = 0 ∧ (t.ring r).walkCount = 0) ∧
    (∀ c, t.ctx c = none) ∧ t.hold = [] ∧ t.passAsked = false ∧ (∀ h, t.tagEntry h = none) ∧ t.ready = [] ∧
    t.forward = [] ∧ t.decided = [] ∧ (∀ o, t.ownTag o = .free) ∧ t.journal = [] ∧ t.service = [] ∧
    t.lastClass = .service ∧ (∀ i, t.slot i = .empty) ∧ t.loadOrder = [] ∧ (∀ i, t.rejected.get i = false) ∧
    t.events = [] ∧ t.overrun = false ∧ t.eventNumber = 0 ∧ t.frame = none ∧ t.notify = false ∧ t.hostReady = false ∧
    t.inReset = true ∧ t.ckptSampled = false ∧ t.pending = s.pending ∧ t.script = s.script ∧ t.drawn = s.drawn) ∧
  (∀ s : State, s.inReset = true →
    (∀ c, c ≠ .deviceReset → (∀ b h, c ≠ .deviceResetEnd b h) → exec c s = .next s) ∧
    (∀ b h, exec (.deviceResetEnd b h) s = .next { s with inReset := false, ckptLevel := h, frameWait := b }) ∧
    s.hostReady = false ∧ s.notify = false) ∧
  ∀ (s : State) (i : SlotId) (body : List Byte) (k : Byte) (n : Nat) (p : FramePart), s.inReset = false →
    s.frameWait = true →
    let ended := { s with frameWait := false }
    exec (.commandFrame i body) s = .next ended ∧
    (k ∉ ([0x01, 0x02, 0x11, 0x12, 0x20, 0x30] : List Byte) → exec (.unknownFrameKind k n) s = .next ended) ∧
    (p = .whole n ∨ p = .ends n → exec (.responseRead i p) s = .next ended ∧ exec (.statusRead p) s = .next ended ∧
      exec (.eventRead p) s = .next ended) ∧
    exec (.responseRead i .kindByte) s = .next s ∧ exec (.statusRead .kindByte) s = .next s ∧
    exec (.eventRead .kindByte) s = .next s

/-! ### The management port: frames, slots, events (chapter 11) -/

/-- What a frame is (R166): its bits make whole bytes, most significant bit first, bits of an incomplete byte are discarded,
and its first byte names what it does; a frame without a whole byte does nothing. COMMAND_FRAME: a short frame is discarded;
a whole one loads its first 32 bytes into an EMPTY slot, and sets the rejected flag of a slot that is not EMPTY (R168, R169).
UNKNOWN_FRAME_KIND: the frame is ignored. In both, zeros are driven, from the kind byte on (R166). -/
def Obligations.FramesToTheBridge : Prop :=
  (∀ (body : List Byte) (k : Byte),
    commandOfFrame [] = none ∧
    commandOfFrame (0x01 :: body) = some (.commandFrame 0 body) ∧
    commandOfFrame (0x02 :: body) = some (.commandFrame 1 body) ∧
    commandOfFrame (0x11 :: body) = some (.responseRead 0 (.whole body.length)) ∧
    commandOfFrame (0x12 :: body) = some (.responseRead 1 (.whole body.length)) ∧
    commandOfFrame (0x20 :: body) = some (.statusRead (.whole body.length)) ∧
    commandOfFrame (0x30 :: body) = some (.eventRead (.whole body.length)) ∧
    (k ∉ ([0x01, 0x02, 0x11, 0x12, 0x20, 0x30] : List Byte) →
      commandOfFrame (k :: body) = some (.unknownFrameKind k body.length))) ∧
  (∀ (bytes : List Byte) (rest : List Bool), rest.length < 8 → portBytes (bytes.flatMap portBits ++ rest) = bytes) ∧
  (∀ b : Byte, (portBits b).length = 8 ∧ ∀ n < 8, (portBits b).getD n false = b.getLsbD (7 - n)) ∧
  ∀ (s : State) (i : SlotId) (body : List Byte) (k : Byte) (n : Nat), s.inReset = false → s.frame = none →
    s.frameWait = false →
    exec (.commandFrame i body) s = .next
      (let z := { s with sdo := List.replicate (1 + body.length) 0 }
       if body.length < 32 then z
       else if s.slot i = .empty then
         { z.setSlot i (.loaded (body.take 32)) with loadOrder := s.loadOrder ++ [i] }
       else z.setRejected i true) ∧
    (k ∉ ([0x01, 0x02, 0x11, 0x12, 0x20, 0x30] : List Byte) →
      exec (.unknownFrameKind k n) s = .next { s with sdo := List.replicate (1 + n) 0 })

/-- RESPONSE_READ delivers the stored answer of an ANSWERED slot, and empties the slot if it is completed; from any
other slot it delivers NOT-READY and zeros, and changes nothing (R172). A cut-short read changes no state (R167). Before the
record a zero is driven during the kind byte (R166). -/
def Obligations.ResponseReadCollectsTheAnswer : Prop :=
  ∀ (s : State) (i : SlotId) (n : Nat), s.inReset = false → s.frame = none → s.frameWait = false →
    (∀ rec, s.slot i = .answered rec → rec.length = 32 → exec (.responseRead i (.whole n)) s = .next
      (let z := { s with sdo := 0 :: (rec ++ List.replicate n 0).take n }
       if n < 32 then z else z.setSlot i .empty)) ∧
    ((∀ rec, s.slot i ≠ .answered rec) → exec (.responseRead i (.whole n)) s = .next
      { s with sdo := 0 :: ([0, 0, 0x0B] ++ List.replicate (29 + n) 0).take n })

/-- STATUS_READ delivers the status record, and a completed one clears the flags that it reported set (R173, R174).
EVENT_READ delivers the oldest record and removes it if the read is completed; on an empty queue it delivers the record of
no event and removes nothing (R177). Both records stand byte by byte as R184 lays them out, with the codes of section 12.2
and the fields of each event that R176 names. -/
def Obligations.StatusAndEventReads : Prop :=
  ∀ (s : State) (n : Nat), s.inReset = false → s.frame = none → s.frameWait = false → s.events.length ≤ 32 →
    exec (.statusRead (.whole n)) s = .next
      (let z := { s with sdo := 0 :: (statusRecord s ++ List.replicate n 0).take n }
       if n < 16 then z else { (z.setRejected 0 false).setRejected 1 false with overrun := false }) ∧
    (∀ e es, s.events = e :: es → exec (.eventRead (.whole n)) s = .next
      (let z := { s with sdo := 0 :: (eventRecord e ++ List.replicate n 0).take n }
       if n < 16 then z else { z with events := es })) ∧
    (s.events = [] → exec (.eventRead (.whole n)) s = .next
      { s with
        sdo := 0 :: ([0, 0, 0xFF, 0, 0, 0, 0, 0, 0, 0, 0, 0, 0xFF, 0, 0, 0] ++ List.replicate n (0 : Byte)).take n }) ∧
    (let b := statusRecord s
     b.length = 16 ∧ byteAt b 0 = s.mode.code ∧ byteAt b 1 = (s.slot 0).code ∧ byteAt b 2 = (s.slot 1).code ∧
     byteAt b 3 = flagBit (s.rejected.get 0) + 2 * flagBit (s.rejected.get 1) ∧ byteAt b 4 = s.events.length ∧
     byteAt b 5 = flagBit s.overrun ∧ (∀ r : RingId, byteAt b (6 + r.val) = (s.ring r).phase.state.code) ∧
     byteAt b 10 = s.eventNumber.toNat ∧ b.drop 11 = List.replicate 5 0) ∧
    (∀ e : Event, e.body.countField < 2 ^ 32 →
      let b := eventRecord e
      b.length = 16 ∧ byteAt b 0 = e.number.toNat ∧ byteAt b 1 = e.body.kindCode ∧ byteAt b 2 = e.body.ringField ∧
      byteAt b 3 = e.body.causeField ∧ fieldAt b 4 4 = e.body.epochField ∧ fieldAt b 8 4 = e.body.countField ∧
      byteAt b 12 = e.body.tagField ∧ b.drop 13 = List.replicate 3 0) ∧
    (let fields := fun b : EventBody => (b.kindCode, b.ringField, b.causeField, b.epochField, b.countField, b.tagField)
     ∀ (r : RingId) (e : Epoch) (k : Nat) (h : HostTag),
      fields (.opened r .fresh e k) = (1, r.val, 1, e.toNat, k, 0xFF) ∧
      fields (.opened r .recover e k) = (1, r.val, 2, e.toNat, k, 0xFF) ∧
      (∀ p ∈ [(Cause.none, 0), (.full, 1), (.recordFailed, 2), (.markFailed, 3), (.restoreFailed, 4), (.checksum, 5),
          (.score, 6), (.sequence, 7), (.noJournal, 8)],
        fields (.openFailed r p.1) = (2, r.val, p.2, 0, 0, 0xFF) ∧
        fields (.broken r p.1 k) = (5, r.val, p.2, 0, k, 0xFF)) ∧
      (∀ p ∈ [(CkptReason.command, 2), (.timer, 3), (.pin, 4)],
        fields (.checkpointed r p.1 e k) = (3, r.val, p.2, e.toNat, k, 0xFF)) ∧
      fields (.rolledBack r e k) = (4, r.val, 0, e.toNat, k, 0xFF) ∧
      fields (.closed r .command) = (6, r.val, 1, 0, 0, 0xFF) ∧ fields (.closed r .reset) = (6, r.val, 2, 0, 0, 0xFF) ∧
      fields (.fillHigh r k) = (7, r.val, 0, 0, k, 0xFF) ∧ fields (.ringFull r) = (8, r.val, 0, 0, 0, 0xFF) ∧
      fields (.scoreSuspect r k) = (9, r.val, 0, 0, k, 0xFF) ∧
      fields (.protocol h) = (0x0A, 0xFF, 0, 0, 0, h.val)) ∧
    (∀ rec : List Byte, Slot.code .empty = 0 ∧ Slot.code (.loaded rec) = 1 ∧ Slot.code (.executing rec) = 2 ∧
      Slot.code (.answered rec) = 3) ∧
    Mode.code .config = 0 ∧ Mode.code .run = 1 ∧
    ∀ p ∈ [(MarkReason.fresh, 1), (.checkpoint .command, 2), (.checkpoint .timer, 3), (.checkpoint .pin, 4), (.rollback, 5)],
      p.1.code = p.2

/-- A read frame in two acts: the record and the flags are those of the moment its kind byte was complete, whatever has
changed since, and the frame acts when it ends. A flag set in between stays set; a slot that has become ANSWERED, or an event
that has joined an empty queue, in between stays; a frame that is cut short changes nothing (R167, R172, R174, R177). -/
def Obligations.ReadFramesActOnWhatTheyTook : Prop :=
  (∀ (s : State) (i : SlotId), s.inReset = false → s.frame = none → s.frameWait = false →
    exec (.statusRead .kindByte) s = .next
      { s with frame := some (.status (statusRecord s) (s.rejected.get 0) (s.rejected.get 1) s.overrun) } ∧
    (∀ e es, s.events = e :: es →
      exec (.eventRead .kindByte) s = .next { s with frame := some (.event (eventRecord e) true) }) ∧
    (s.events = [] → exec (.eventRead .kindByte) s = .next
      { s with frame := some (.event [0, 0, 0xFF, 0, 0, 0, 0, 0, 0, 0, 0, 0, 0xFF, 0, 0, 0] false) }) ∧
    (∀ rec, s.slot i = .answered rec →
      exec (.responseRead i .kindByte) s = .next { s with frame := some (.response i rec true) }) ∧
    ((∀ rec, s.slot i ≠ .answered rec) → exec (.responseRead i .kindByte) s = .next
      { s with frame := some (.response i ([0, 0, 0x0B] ++ List.replicate 29 0) false) })) ∧
  ∀ (t : State) (i : SlotId) (n : Nat) (rec : List Byte) (held : Bool), t.inReset = false → t.frameWait = false →
    let ended := { t with sdo := 0 :: (rec ++ List.replicate n 0).take n, frame := none }
    (∀ a b o, t.frame = some (.status rec a b o) →
      (n < rec.length → exec (.statusRead (.ends n)) t = .next ended) ∧
      (rec.length ≤ n → ∃ u, exec (.statusRead (.ends n)) t = .next u ∧
        u.rejected.get 0 = (t.rejected.get 0 && !a) ∧ u.rejected.get 1 = (t.rejected.get 1 && !b) ∧
        u.overrun = (t.overrun && !o) ∧ u = { ended with rejected := u.rejected, overrun := u.overrun })) ∧
    (t.frame = some (.event rec held) → exec (.eventRead (.ends n)) t = .next
      (if rec.length ≤ n ∧ held = true then { ended with events := t.events.tail } else ended)) ∧
    (t.frame = some (.response i rec held) → exec (.responseRead i (.ends n)) t = .next
      (if rec.length ≤ n ∧ held = true then ended.setSlot i .empty else ended))

/-- The act in which the queue takes an event (R175): it gets the current number, the number advances from 255 to 0, and
it joins the tail while fewer than 32 records are held; otherwise it is dropped and the overrun flag is set. -/
def Obligations.EventQueueTakesAnEvent : Prop :=
  ∀ (s : State) (b : EventBody),
    (s.raise b).eventNumber.toNat = (s.eventNumber.toNat + 1) % 256 ∧
    (s.events.length < 32 → (s.raise b).events = s.events ++ [⟨s.eventNumber, b⟩] ∧ (s.raise b).overrun = s.overrun) ∧
    (32 ≤ s.events.length → (s.raise b).events = s.events ∧ (s.raise b).overrun = true) ∧
    s.raise b = { s with
      events := (s.raise b).events, overrun := (s.raise b).overrun, eventNumber := (s.raise b).eventNumber }

/-- The NOTIFY output (R178): high exactly while the queue holds a record and RESET_N is high; an event that joins an empty
queue raises it, a completed EVENT read that removes the last record drops it, a dropped event leaves it high, slots and
flags do not drive it, and it is low throughout a device reset and after it. -/
def Obligations.NotifyFollowsTheEventQueue : Prop :=
  (∀ s : State, s.notify = (!s.inReset && !s.events.isEmpty)) ∧
  (∀ (s : State) (b : EventBody), s.inReset = false → (s.raise b).notify = true) ∧
  (∀ (s : State) (e : Event), s.inReset = false → s.frame = none → s.frameWait = false → s.events = [e] →
    s.notify = true ∧ ∃ t, exec (.eventRead (.whole 16)) s = .next t ∧ t.notify = false) ∧
  (∀ (s : State) (b : EventBody), 32 ≤ s.events.length → (s.raise b).notify = s.notify) ∧
  (∀ (s : State) (i : SlotId) (w : Slot) (b : Bool), (s.setSlot i w).notify = s.notify ∧
    (s.setRejected i b).notify = s.notify ∧ { s with overrun := b }.notify = s.notify) ∧
  (∀ s : State, ∃ t, exec .deviceReset s = .next t ∧ t.notify = false ∧
    ∀ b h, ∃ u, exec (.deviceResetEnd b h) t = .next u ∧ u.notify = false)

/-- Events leave the queue only by a completed EVENT read or a device reset: every other command leaves the queue's records
in place at its head (R175, R177). -/
def Obligations.EventsLeaveOnlyByEventReads : Prop :=
  ∀ (c : Instr) (s t : State), (∀ p, c ≠ .eventRead p) → c ≠ .deviceReset → exec c s = .next t → s.events <+: t.events

/-! ### The command unit and the commands of the classifier and the configuration -/

/-- The command unit (R170) in its two acts. Idle, it takes the slot loaded first, which becomes EXECUTING; while a slot is
EXECUTING none is taken, a STATUS read reports it, a COMMAND frame to it is rejected and a RESPONSE read finds it NOT-READY.
Its own two refusals (R171): an undefined code is answered UNKNOWN, and a ring field above 3 BAD-VALUE, whatever the command;
the slot alone changes. An answer is a record of 32 bytes that echoes code and ring field, with the status in byte 2, a zero
and the result (R182); the status codes are those of section 12.2. That a row may stand for both acts with nothing between
them, as the answers below then read, is the model's choice (log 12). -/
def Obligations.CommandUnitRefusesAndAnswers : Prop :=
  (let commands : CommandPart → List (Nat × Instr) := fun part =>
    [(0x01, .setMode part), (0x02, .writeRegion part), (0x03, .readRegion part), (0x04, .configureRing part),
      (0x05, .readRing part), (0x06, .setInterval part), (0x07, .openRing part), (0x08, .checkpoint part),
      (0x09, .rollback part), (0x0A, .closeRing part), (0x0B, .resetRing part)]
   (∀ (s : State) (i : SlotId) (rest : List SlotId) (rec : List Byte), s.inReset = false →
    (∀ k b, s.slot k ≠ .executing b) → s.loadOrder = i :: rest → s.slot i = .loaded rec →
    let taken := { s.setSlot i (.executing rec) with loadOrder := rest }
    s.commandAt .whole = some (i, rec) ∧ taken.commandAt .answers = some (i, rec) ∧ taken.commandAt .whole = none ∧
    (∀ p ∈ commands .takes, byteAt rec 0 = p.1 → exec p.2 s = .next taken) ∧
    (byteAt rec 0 = 0 ∨ 0x0B < byteAt rec 0 → exec (.unknownCommand .takes) s = .next taken) ∧
    byteAt (statusRecord taken) (1 + i.val) = 2 ∧
    (s.frame = none → s.frameWait = false →
      (∀ body : List Byte, 32 ≤ body.length → exec (.commandFrame i body) taken = .next
        ({ taken with sdo := List.replicate (1 + body.length) 0 }.setRejected i true)) ∧
      exec (.responseRead i (.whole 32)) taken = .next
        { taken with sdo := [0, 0, 0, 0x0B] ++ List.replicate 29 0 })) ∧
   ∀ (s : State) (part : CommandPart) (i : SlotId) (rec : List Byte), s.inReset = false →
    s.commandAt part = some (i, rec) →
    (byteAt rec 0 = 0 ∨ 0x0B < byteAt rec 0 →
      exec (.unknownCommand part) s = .next (s.answerSlot i rec .unknown [])) ∧
    (3 < byteAt rec 1 → ∀ p ∈ commands part, byteAt rec 0 = p.1 →
      exec p.2 s = .next (s.answerSlot i rec .badValue []))) ∧
  (∀ (s : State) (i : SlotId) (rec : List Byte) (st : Status) (result : List Byte), result.length ≤ 28 →
    ∃ out, (s.answerSlot i rec st result).slot i = .answered out ∧ out.length = 32 ∧ byteAt out 0 = byteAt rec 0 ∧
      byteAt out 1 = byteAt rec 1 ∧ byteAt out 2 = st.code ∧ byteAt out 3 = 0 ∧
      out.drop 4 = result ++ List.replicate (28 - result.length) 0 ∧
      s.answerSlot i rec st result = { s.setSlot i (.answered out) with loadOrder := s.loadOrder.erase i }) ∧
  ∀ p ∈ [(Status.done, 0x01), (.started, 0x02), (.busy, 0x03), (.badState, 0x04), (.badValue, 0x05), (.notConfig, 0x06),
      (.notRun, 0x07), (.ringsOpen, 0x08), (.scoreHigh, 0x09), (.unknown, 0x0A), (.notReady, 0x0B)], p.1.code = p.2

/-- SET_MODE (R27), its checks in their order; an accepted change asks for a pass. -/
def Obligations.SetModeAnswers : Prop :=
  ∀ (s : State) (part : CommandPart) (i : SlotId) (rec : List Byte), s.inReset = false →
    s.commandAt part = some (i, rec) →
    byteAt rec 0 = 0x01 → byteAt rec 1 ≤ 3 →
    exec (.setMode part) s = .next
      (if 1 < byteAt rec 4 then s.answerSlot i rec .badValue []
       else if byteAt rec 4 = s.mode.code then s.answerSlot i rec .done []
       else if byteAt rec 4 = 1 then ({ s with mode := .run }.askPass).answerSlot i rec .done []
       else if ∀ r, (s.ring r).phase = .closed then ({ s with mode := .config }.askPass).answerSlot i rec .done []
       else s.answerSlot i rec .ringsOpen [])

/-- WRITE_REGION (R30): NOT-CONFIG in RUN; in CONFIG BAD-VALUE for an index above 11, an enable or class out of its codes,
or a base or mask with a low bit set; otherwise the entry takes the five fields together, and nothing else changes. -/
def Obligations.WriteRegionReplacesOneEntry : Prop :=
  ∀ (s : State) (part : CommandPart) (i : SlotId) (rec : List Byte) (r : RingId), s.inReset = false →
    s.commandAt part = some (i, rec) →
    byteAt rec 0 = 0x02 → byteAt rec 1 = r.val →
    (s.mode = .run → exec (.writeRegion part) s = .next (s.answerSlot i rec .notConfig [])) ∧
    (s.mode = .config →
      (11 < byteAt rec 4 ∨ 1 < byteAt rec 5 ∨ 2 < byteAt rec 6 ∨ fieldAt rec 8 5 % 4096 ≠ 0 ∨
        fieldAt rec 16 5 % 4096 ≠ 0) →
      exec (.writeRegion part) s = .next (s.answerSlot i rec .badValue [])) ∧
    (s.mode = .config → ∀ k : Fin 12, byteAt rec 4 = k.val → byteAt rec 5 ≤ 1 → byteAt rec 6 ≤ 2 →
      fieldAt rec 8 5 % 4096 = 0 → fieldAt rec 16 5 % 4096 = 0 →
      exec (.writeRegion part) s = .next ((s.setRegion k
        { enable := byteAt rec 5 == 1, base := BitVec.ofNat 40 (fieldAt rec 8 5), mask := BitVec.ofNat 40 (fieldAt rec 16 5),
          cls := if byteAt rec 6 = 0 then .pass else if byteAt rec 6 = 1 then .journal else .guard,
          ring := r }).answerSlot i rec .done []))

/-- READ_REGION (R31), in either mode: BAD-VALUE for an index above 11 and, by the command unit, for a ring field above 3;
otherwise, whatever the ring field, DONE with the entry's enable, base, mask, class and ring as they stand. No state
changes apart from the slot that holds the answer. -/
def Obligations.ReadRegionReturnsTheEntry : Prop :=
  ∀ (s : State) (part : CommandPart) (i : SlotId) (rec : List Byte), s.inReset = false →
    s.commandAt part = some (i, rec) →
    byteAt rec 0 = 0x03 →
    ((3 < byteAt rec 1 ∨ 11 < byteAt rec 4) → exec (.readRegion part) s = .next (s.answerSlot i rec .badValue [])) ∧
    (∀ k : Fin 12, byteAt rec 1 ≤ 3 → byteAt rec 4 = k.val →
      ∃ res, exec (.readRegion part) s = .next (s.answerSlot i rec .done res) ∧
      res.length = 17 ∧ byteAt res 0 = k.val ∧ byteAt res 1 = flagBit (s.region k).enable ∧
      byteAt res 2 = (match (s.region k).cls with
        | .pass => 0
        | .journal => 1
        | .guard => 2) ∧ byteAt res 3 = (s.region k).ring.val ∧
      fieldAt res 4 5 = (s.region k).base.toNat ∧ fieldAt res 12 5 = (s.region k).mask.toNat)

/-- CONFIGURE_RING (R3): BAD-STATE outside CLOSED, BAD-VALUE when a parameter fails, and otherwise DONE: the configuration
is replaced and the six positions become 0, in either device mode; everything else of the ring and of the bridge stays.
The parameter checks and the configuration they pass stand byte by byte (R2, R182). -/
def Obligations.ConfigureRingChecksAndStores : Prop :=
  (∀ (s : State) (part : CommandPart) (i : SlotId) (rec : List Byte) (r : RingId), s.inReset = false →
    s.commandAt part = some (i, rec) →
    byteAt rec 0 = 0x04 → byteAt rec 1 = r.val →
    ((s.ring r).phase ≠ .closed → exec (.configureRing part) s = .next (s.answerSlot i rec .badState [])) ∧
    ((s.ring r).phase = .closed → configOf rec = none →
      exec (.configureRing part) s = .next (s.answerSlot i rec .badValue [])) ∧
    ∀ c, (s.ring r).phase = .closed → configOf rec = some c →
      exec (.configureRing part) s = .next ((s.setRing r { s.ring r with
        config := c, release := 0, produce := 0, live := 0, nextSeq := 0, epoch := 0, frontier := 0 }).answerSlot i rec
        .done [])) ∧
  ∀ rec : List Byte,
    (configOf rec = none ↔
      fieldAt rec 8 5 % 4096 ≠ 0 ∨
      ¬(fieldAt rec 4 4 = 0 ∨ (16 ≤ fieldAt rec 4 4 ∧ fieldAt rec 4 4 ≤ 262144 ∧ fieldAt rec 4 4 % 16 = 0)) ∨
      (fieldAt rec 4 4 ≠ 0 ∧ 2 ^ 40 < fieldAt rec 8 5 + 128 * fieldAt rec 4 4) ∨
      (fieldAt rec 4 4 ≠ 0 ∧ fieldAt rec 20 4 ≠ 0 ∧ fieldAt rec 4 4 - 1 < fieldAt rec 20 4) ∨
      (fieldAt rec 4 4 = 0 ∧ fieldAt rec 20 4 ≠ 0) ∨
      1 < byteAt rec 13 ∨ 5 < byteAt rec 14 ∨ 1 < byteAt rec 15) ∧
    ∀ c, configOf rec = some c →
      c.base.toNat = fieldAt rec 8 5 ∧ c.cells = fieldAt rec 4 4 ∧ c.tag.toNat = fieldAt rec 16 2 ∧
      c.policy = (if byteAt rec 13 = 0 then .refuse else .breaks) ∧ c.highWater = fieldAt rec 20 4 ∧
      c.interval.val = byteAt rec 14 ∧ c.pin = (byteAt rec 15 == 1)

/-- READ_RING (R21): DONE in every ring state with the ring status record, and no state changes apart from the slot. Every
field of the ring can be read back from the bits of the record (R183), the durable frontier too, as its distance below the
newest sequence number, for a timer whose expiry has been taken (log 19 says what a timer at 0 reads as). The codes are
those of section 12.2. -/
def Obligations.ReadRingReportsTheRing : Prop :=
  (∀ (s : State) (part : CommandPart) (i : SlotId) (rec : List Byte) (r : RingId), s.inReset = false →
    s.commandAt part = some (i, rec) →
    byteAt rec 0 = 0x05 → byteAt rec 1 = r.val →
    exec (.readRing part) s = .next (s.answerSlot i rec .done (ringResult (s.ring r)))) ∧
  (∀ x : Ring, (x.epoch ≠ 0 → (x.nextSeq - 1 - x.frontier).toNat < 2 ^ 18) → x.inFlight < 64 →
    x.release < 2 ^ 18 → x.live < 2 ^ 19 → x.lastCause ≠ .noJournal → x.config.cells % 16 = 0 → x.config.cells ≤ 262144 →
    (∀ t, x.timer = some t → 1 ≤ t ∧ t ≤ 5000000) → x.touched.length ≤ 256 → x.score ≤ 255 →
    let b := ringResult x
    b.length = 28 ∧ fieldAt b 0 4 = x.epoch.toNat ∧ fieldAt b 4 8 = x.nextSeq.toNat ∧
    (x.epoch = 0 → fieldAt b 12 3 % 2 ^ 18 = 0) ∧
    (x.epoch ≠ 0 → x.frontier = x.nextSeq - 1 - BitVec.ofNat 64 (fieldAt b 12 3 % 2 ^ 18)) ∧
    fieldAt b 12 3 / 2 ^ 18 = x.inFlight ∧
    fieldAt b 15 3 % 2 ^ 18 = x.release ∧ fieldAt b 15 3 / 2 ^ 18 % 8 = x.phase.state.code ∧
    fieldAt b 15 3 / 2 ^ 21 = x.phase.sub.code ∧ fieldAt b 18 3 % 2 ^ 19 = x.live ∧
    fieldAt b 18 3 / 2 ^ 19 % 8 = x.lastCause.code ∧ fieldAt b 18 3 / 2 ^ 22 = flagBit x.complete ∧
    fieldAt b 21 2 % 2 ^ 15 * 16 = x.config.cells ∧ fieldAt b 21 2 / 2 ^ 15 = flagBit x.highArmed ∧
    fieldAt b 23 2 % 2 ^ 13 = (match x.timer with
      | none => 0
      | some t => (t + 999) / 1000) ∧
    fieldAt b 23 2 / 2 ^ 13 = flagBit x.fullArmed ∧ fieldAt b 25 2 = x.touched.length ∧ byteAt b 27 = x.score) ∧
  (∀ p ∈ [(Phase.closed, 0, 0), (.openingDrain, 1, 1), (.openingScan, 1, 2), (.openingMark, 1, 4), (.active, 2, 0),
      (.checkpointingDrain, 3, 1), (.checkpointingMark, 3, 4), (.rollingDrain, 4, 1), (.rollingRestore, 4, 3),
      (.rollingMark, 4, 4), (.closingDrain, 5, 1), (.broken, 6, 0)],
    p.1.state.code = p.2.1 ∧ p.1.sub.code = p.2.2) ∧
  (∀ p ∈ [(Cause.none, 0), (.full, 1), (.recordFailed, 2), (.markFailed, 3), (.restoreFailed, 4), (.checksum, 5),
      (.score, 6), (.sequence, 7), (.noJournal, 8)], p.1.code = p.2) ∧
  flagBit true = 1 ∧ flagBit false = 0

/-- SET_INTERVAL (R91), in every ring state: BAD-VALUE for a code above 5; otherwise the code is stored, and in ACTIVE the
timer starts again with the full new interval, or stops with code 0. The intervals are those of R89. -/
def Obligations.SetIntervalRestartsTheTimer : Prop :=
  (∀ (s : State) (part : CommandPart) (i : SlotId) (rec : List Byte) (r : RingId), s.inReset = false →
    s.commandAt part = some (i, rec) →
    byteAt rec 0 = 0x06 → byteAt rec 1 = r.val →
    (5 < byteAt rec 4 → exec (.setInterval part) s = .next (s.answerSlot i rec .badValue [])) ∧
    ∀ k : Fin 6, byteAt rec 4 = k.val →
      exec (.setInterval part) s = .next ((s.setRing r { s.ring r with
        config := { (s.ring r).config with interval := k }
        timer := if (s.ring r).phase = .active then intervalTime k else (s.ring r).timer }).answerSlot i rec
        .done [])) ∧
  intervalTime 0 = none ∧ intervalTime 1 = some 10000 ∧ intervalTime 2 = some 50000 ∧ intervalTime 3 = some 250000 ∧
    intervalTime 4 = some 1000000 ∧ intervalTime 5 = some 5000000

/-! ### Checkpoints, rollbacks, opens and closes: answers and starts (chapters 6, 7 and 8) -/

/-- CHECKPOINT (R87), ROLLBACK (R105), CLOSE_RING (R137), by the ring's state and, in BROKEN, its score (R147), and
OPEN_RING with its checks in their order (R127). -/
def Obligations.RingOperationAnswers : Prop :=
  ∀ (s : State) (part : CommandPart) (i : SlotId) (rec : List Byte) (r : RingId), s.inReset = false →
    s.commandAt part = some (i, rec) →
    byteAt rec 1 = r.val →
    (byteAt rec 0 = 0x08 → exec (.checkpoint part) s = .next (match (s.ring r).phase.state with
      | .active => (s.startCheckpoint r .command).answerSlot i rec .started []
      | .broken => if 160 ≤ (s.ring r).score then s.answerSlot i rec .scoreHigh []
        else (s.startCheckpoint r .command).answerSlot i rec .started []
      | .closed => s.answerSlot i rec .badState []
      | .opening | .checkpointing | .rolling | .closing => s.answerSlot i rec .busy [])) ∧
    (byteAt rec 0 = 0x09 → exec (.rollback part) s = .next (match (s.ring r).phase.state with
      | .active => (s.startRollback r).answerSlot i rec .started []
      | .broken | .closed => s.answerSlot i rec .badState []
      | .opening | .checkpointing | .rolling | .closing => s.answerSlot i rec .busy [])) ∧
    (byteAt rec 0 = 0x0A → exec (.closeRing part) s = .next (match (s.ring r).phase.state with
      | .active => (s.startClose r).answerSlot i rec .started []
      | .broken => if 160 ≤ (s.ring r).score then s.answerSlot i rec .scoreHigh []
        else (s.startClose r).answerSlot i rec .started []
      | .closed => s.answerSlot i rec .badState []
      | .opening | .checkpointing | .rolling | .closing => s.answerSlot i rec .busy [])) ∧
    (byteAt rec 0 = 0x07 → exec (.openRing part) s = .next
      (if byteAt rec 4 = 0 ∨ 2 < byteAt rec 4 then s.answerSlot i rec .badValue []
       else if (s.ring r).phase = .active ∨ (s.ring r).phase = .broken then s.answerSlot i rec .badState []
       else if (s.ring r).phase ≠ .closed then s.answerSlot i rec .busy []
       else if s.mode = .config then s.answerSlot i rec .notRun []
       else if (s.ring r).config.cells = 0 then s.answerSlot i rec .badValue []
       else if 160 ≤ (s.ring r).score then s.answerSlot i rec .scoreHigh []
       else (s.startOpen r (if byteAt rec 4 = 1 then .fresh else .recover)).answerSlot i rec .started []))

/-- The condition that ends a DRAIN (R58): the in-flight write count is 0, no host read of the ring is being steered, and
no restore access of the ring waits or is issued (that a waiting access counts as outstanding is DEDUCED, log 8; that the drain
of a rollback too waits for the reads that its ring steers, of which R107 and R120 do not speak, is DEDUCED, log 7). A test
that finds it does what the ring's operation does at the end of its drain, and any other test does nothing. -/
def Obligations.DrainTest : Prop :=
  ∀ (s : State) (r : RingId),
    (s.drained r = true ↔ (s.ring r).inFlight = 0 ∧ (s.ring r).steered = [] ∧
      (∀ a ∈ s.service, a.owner ≠ .restoreHeader r ∧ a.owner ≠ .restoreImage r ∧ a.owner ≠ .restoreWrite r) ∧
      ∀ o n, s.ownTag o ≠ .inUse (some (.restoreHeader r)) n ∧ s.ownTag o ≠ .inUse (some (.restoreImage r)) n ∧
        s.ownTag o ≠ .inUse (some (.restoreWrite r)) n) ∧
    (s.drained r = false ∨ (s.ring r).phase.sub ≠ .drain → s.drainTest r = s) ∧
    (s.drained r = true → (s.ring r).phase = .checkpointingDrain → s.drainTest r = s.checkpointMark r) ∧
    (s.drained r = true → (s.ring r).phase = .rollingDrain → s.drainTest r = s.restoreStart r) ∧
    (s.drained r = true → (s.ring r).phase = .closingDrain → s.drainTest r = s.closeComplete r) ∧
    (s.drained r = true → (s.ring r).phase = .openingDrain → (s.ring r).openMode = some .fresh →
      s.drainTest r = s.freshMark r) ∧
    (s.drained r = true → (s.ring r).phase = .openingDrain → (s.ring r).openMode = some .recover →
      s.drainTest r = s.searchStart r)

/-- The start of a checkpoint (R88), whatever its trigger. While the drain waits the ring is in CHECKPOINTING/DRAIN with its
reason and its timer stopped. A drain that ends at once reserves the mark at the produce cell with the next sequence
number and requests the write of its header (R97), or breaks the ring with cause SEQUENCE (R102). -/
def Obligations.CheckpointStart : Prop :=
  ∀ (s : State) (r : RingId) (reason : CkptReason),
    let x := { s.ring r with
      phase := .checkpointingDrain, reason := some reason, markRetry := false, timer := none }
    let m : Mark :=
      { cell := x.produce, seq := x.nextSeq, epoch := if x.epoch.toNat = 4294967295 then 1 else x.epoch + 1,
        reason := .checkpoint reason, released := x.live - 1 }
    (s.drained r = false → s.startCheckpoint r reason = (s.setRing r x).askPass) ∧
    (s.drained r = true → x.nextSeq = 0 →
      s.startCheckpoint r reason = ((s.setRing r x).askPass).breakRing r .sequence) ∧
    (s.drained r = true → x.nextSeq ≠ 0 → s.startCheckpoint r reason =
      { (s.setRing r { x with
          phase := .checkpointingMark, mark := some m, produce := (x.produce + 1) % x.config.cells, live := x.live + 1,
          nextSeq := x.nextSeq + 1 }).askPass with
        journal := s.journal ++ [headerWrite (.checkpointMark r) x.config x.produce (markHeader r x.config.tag m)] })

/-- TIMER_EXPIRY (R90): in ACTIVE, with the timer's remaining time run out, a checkpoint starts with reason TIMER. A
recognised CKPT edge (R92): every ring that is ACTIVE with pin enable starts a
checkpoint with reason PIN, in no fixed order (log 5), all in one act with no other event between them (the model's choice,
log 32), and every other ring is left as it is. CKPT_EDGE (R165): each of its
levels is one tick that samples the line; an edge is recognised when the sample before it was low and it is high, and the
first sample after a device reset recognises none. As time passes, running checkpoint timers and the timers of issued own
accesses fall, to 0 at least, CKPT is sampled, and nothing else changes (R89, R163, R165). The model's choices: TIMER_EXPIRY
carries the µs that pass before the expiry (log 2) and, when none is due, only lets them pass (log 1); a step on an empty
queue is a tick (log 2); CKPT_EDGE carries the samples, in one tick the time passes before the edge is delivered, and CKPT
keeps its level while time passes in another command (log 15). -/
def Obligations.TimerAndPinTriggers : Prop :=
  ∀ s : State, s.inReset = false →
    (∀ r us left, (s.ring r).phase = .active → (s.ring r).timer = some left → left ≤ us →
      exec (.timerExpiry r us) s = .next ((s.passTime us).startCheckpoint r .timer)) ∧
    (∀ r us, ((s.ring r).phase ≠ .active ∨ (s.ring r).timer = none ∨ ∃ left, (s.ring r).timer = some left ∧ us < left) →
      exec (.timerExpiry r us) s = .next (s.passTime us)) ∧
    (∃ (order : List RingId) (script : List Nat) (drawn : Nat),
      order.Perm ((List.finRange 4).filter fun r => (s.ring r).config.pin && (s.ring r).phase == .active) ∧
      s.takeEdge = order.foldl (fun u r => u.startCheckpoint r .pin) { s with script, drawn } ∧
      ∀ q, ((s.ring q).config.pin = false ∨ (s.ring q).phase ≠ .active) → s.takeEdge.ring q = s.ring q) ∧
    exec (.ckptEdge []) s = .next s ∧
    (∀ levels, ∃ t, exec (.ckptEdge levels) s = .next t) ∧
    exec (.ckptEdge [false, true]) s = .next
      ({ ({ s.passTime 1 with ckptLevel := false }).passTime 1 with ckptLevel := true }).takeEdge ∧
    (∀ level levels, ∃ u, u = (let sampled := { s.passTime 1 with ckptLevel := level }
        if s.ckptSampled = true ∧ s.ckptLevel = false ∧ level = true then sampled.takeEdge else sampled) ∧
      u.inReset = false ∧ u.ckptSampled = true ∧ u.ckptLevel = level ∧
      exec (.ckptEdge (level :: levels)) s = exec (.ckptEdge levels) u) ∧
    (∀ us, (∀ r, (s.passTime us).ring r = { s.ring r with timer := (s.ring r).timer.map (· - us) }) ∧
      (∀ o, (s.passTime us).ownTag o = match s.ownTag o with
        | .inUse owner time => .inUse owner (time - us)
        | .free => .free
        | .quarantined => .quarantined) ∧
      s.passTime us = { s with
        ckptSampled := s.ckptSampled || us != 0, rings := (s.passTime us).rings, ownTags := (s.passTime us).ownTags }) ∧
    (s.pending = [] → step s = .next (s.passTime 1))

/-- The start of a rollback (R106) removes the held entries that belong to the ring and answers each RETRY (R82). While the
drain waits nothing else changes; when it ends at once the restore begins at the cell before the produce cell, whose
header is read (R107, R108). With no pre-image in the epoch the mark is reserved at once (R113, R114, R119). -/
def Obligations.RollbackStart : Prop :=
  ∀ (s : State) (r : RingId),
    let x := { s.ring r with
      phase := .rollingDrain, cursor := none, expected := none, restored := 0, restoreRetry := false, markRetry := false,
      timer := none }
    let newest := (x.produce + x.config.cells - 1) % x.config.cells
    let m : Mark :=
      { cell := x.produce, seq := x.nextSeq, epoch := if x.epoch.toNat = 4294967295 then 1 else x.epoch + 1,
        reason := .rollback, released := x.live - 1 }
    (s.drained r = false → s.startRollback r = ((s.setRing r x).retryHeld r).askPass) ∧
    (s.drained r = true → newest ≠ x.release → s.startRollback r =
      { ((s.setRing r { x with
          phase := .rollingRestore, cursor := some newest, expected := some (x.nextSeq - 1) }).retryHeld r).askPass with
        service := s.service ++ [headerRead (.restoreHeader r) x.config newest] }) ∧
    (s.drained r = true → newest = x.release → x.nextSeq = 0 → s.startRollback r =
      (((s.setRing r { x with
          phase := .rollingRestore, cursor := some newest, expected := some (x.nextSeq - 1) }).retryHeld r).askPass).breakRing
        r .sequence) ∧
    (s.drained r = true → newest = x.release → x.nextSeq ≠ 0 → s.startRollback r =
      { ((s.setRing r { x with
          phase := .rollingMark, mark := some m, produce := (x.produce + 1) % x.config.cells, live := x.live + 1,
          nextSeq := x.nextSeq + 1 }).retryHeld r).askPass with
        journal := s.journal ++ [headerWrite (.rollbackMark r) x.config x.produce (markHeader r x.config.tag m)] })

/-- The hold queue takes a ring's move into OPENING or ROLLING (R82): the entries held for CONTEXT, MARK or CLOSE that name
the ring leave, each answered RETRY (in a free order, log 5), and the others stay in their order. That nothing else changes
when the queue becomes empty, so that a pass asked for and the note of a stopped pass stay, is the model's choice (log 29). -/
def Obligations.HeldEntriesOfTheRingGetRetry : Prop :=
  ∀ (s : State) (r : RingId), ∃ answers : List HostResponse,
    answers.Perm ((s.hold.filter fun e => e.reason != .line && e.ring == some r).map fun e =>
      (⟨e.req.tag, .retry, []⟩ : HostResponse)) ∧
    (s.retryHeld r).ready = s.ready ++ answers ∧
    (s.retryHeld r).hold = s.hold.filter (fun e => !(e.reason != .line && e.ring == some r)) ∧
    s.retryHeld r = { s with
      hold := (s.retryHeld r).hold, ready := (s.retryHeld r).ready, script := (s.retryHeld r).script,
      drawn := (s.retryHeld r).drawn }

/-- The start of an open (R128): the six positions and the scan state are cleared and the ring drains. When the drain ends
at once a FRESH open reserves its mark at cell 0 with sequence 1 and epoch 1 and requests the write of its header (R130);
a RECOVER open of a ring of 16 cells or more requests the header reads of cells 0 to 3 (R132). -/
def Obligations.OpenStart : Prop :=
  ∀ (s : State) (r : RingId) (mode : OpenMode),
    let x := { s.ring r with
      phase := .openingDrain, release := 0, produce := 0, live := 0, nextSeq := 0, epoch := 0, frontier := 0,
      openMode := some mode, scanPart := none, searchCell := 0, scanReads := 0, newest := none, walkCell := none,
      walkCount := 0, walkHeader := none, markRetry := false, outstanding := [] }
    let m : Mark := { cell := 0, seq := 1, epoch := 1, reason := .fresh, released := 0 }
    (s.drained r = false → s.startOpen r mode = ((s.setRing r x).retryHeld r).askPass) ∧
    (s.drained r = true → mode = .fresh → s.startOpen r mode =
      { ((s.setRing r { x with
          phase := .openingMark, mark := some m, release := 0, produce := 1 % x.config.cells, live := 1,
          nextSeq := 2 }).retryHeld r).askPass with
        journal := s.journal ++ [headerWrite (.freshMark r) x.config 0 (markHeader r x.config.tag m)] }) ∧
    (s.drained r = true → mode = .recover → 16 ≤ x.config.cells → s.startOpen r mode =
      { ((s.setRing r { x with
          phase := .openingScan, scanPart := some .search, searchCell := 4, scanReads := 4 }).retryHeld r).askPass with
        service := s.service ++ [0, 1, 2, 3].map fun cell =>
          headerRead (.searchHeader r cell) x.config cell })

/-- The start of a close (R138), and its completion when the drain ends (R139): the positions, the score, the last cause and
the configuration stay, and CLOSED is raised with cause COMMAND. Durability reports of the ring not yet taken are dropped
(the model's choice, log 9). -/
def Obligations.CloseStartAndCompletion : Prop :=
  ∀ (s : State) (r : RingId),
    let x := { s.ring r with phase := .closingDrain, timer := none }
    (s.drained r = false → s.startClose r = (s.setRing r x).askPass) ∧
    (s.drained r = true → s.startClose r =
      (({ (s.setRing r { x with
          phase := .closed, outstanding := [], touched := [], complete := false, highArmed := false,
          fullArmed := false }).askPass with
        reports := s.reports.filter fun p => p.ring != r }).raise (.closed r .command)).askPass)

/-- RESET_RING (R24, R61, R62, R141): DONE in every state. The ring is CLOSED with the values R24 gives, keeping its
configuration, last BROKEN cause and in-flight count. Its contexts are detached and, unless already FORWARDED or ANSWERING,
forward their host writes, and its steered reads are forwarded, all in a free order (log 5), behind the requests decided
before, which wait only while the forward buffer is full (R159). Its waiting accesses are withdrawn and its issued ones
become orphans. That a ring already CLOSED asks for a pass too is DEDUCED (log 27). -/
def Obligations.ResetRingAbandonsEverything : Prop :=
  ∀ (s : State) (part : CommandPart) (i : SlotId) (rec : List Byte) (r : RingId), s.inReset = false →
    s.commandAt part = some (i, rec) → byteAt rec 0 = 0x0B → byteAt rec 1 = r.val →
    (s.decided ≠ [] → s.forward.length = 4) →
    ∃ (u : State) (moved : List HostRequest), exec (.resetRing part) s = .next (u.answerSlot i rec .done []) ∧
    u.ring r = { Ring.reset with
      config := (s.ring r).config, lastCause := (s.ring r).lastCause, inFlight := (s.ring r).inFlight } ∧
    (∀ c, u.ctx c = (s.ctx c).map fun y =>
      if y.ring = some r then
        if y.phase = .forwarded ∨ y.phase = .answering then { y with stopped := true, ring := none }
        else { y with stopped := true, ring := none, phase := .forwarded, access := .none }
      else y) ∧
    moved.Perm ((List.finRange 8).filterMap (fun c => match s.ctx c with
        | some y => if y.ring = some r ∧ y.phase ≠ .forwarded ∧ y.phase ≠ .answering then some y.req else none
        | none => none) ++ (s.ring r).steered.map (·.req)) ∧
    u.forward ++ u.decided.map (·.req) = s.forward ++ s.decided.map (·.req) ++ moved ∧
    (∀ o, u.ownTag o = match s.ownTag o with
      | .inUse (some owner) n =>
        if owner.ring? = some r ∨ (owner.ctx?.bind s.ctx).any (·.ring == some r) then .inUse none n
        else .inUse (some owner) n
      | z => z) ∧
    (∀ a, a ∈ u.journal ++ u.service ↔ a ∈ s.journal ++ s.service ∧ a.owner.ring? ≠ some r ∧
      ∀ c y, a.owner.ctx? = some c → s.ctx c = some y → y.ring ≠ some r) ∧
    u.events = (s.raise (.closed r .reset)).events ∧ (s.hold ≠ [] → u.passAsked = true) ∧
    OnlyRing r s u ∧ u.hold = s.hold ∧ u.ready = s.ready

/-! ### Breaking, the fault score, and the marks -/

/-- The report of an outcome to the fault score (R148), SCORE-SUSPECT (R150), and a score that reaches 160 (R151). A mark
being written is withdrawn before the break (R102, R119). OPENING/DRAIN, where no report is taken, is treated as the rest
of OPENING (log 20). -/
def Obligations.ScoreReport : Prop :=
  ∀ (s : State) (r : RingId) (ok : Bool),
    let old := (s.ring r).score
    let new := if ok then old - 1 else min 255 (old + 16)
    let s1 := s.setRing r { s.ring r with score := new }
    let s2 := if old < 64 ∧ 64 ≤ new then s1.raise (.scoreSuspect r new) else s1
    s.report r ok = (if old < 160 ∧ 160 ≤ new then
        match (s.ring r).phase.state with
        | .active | .closing => s2.breakRing r .score
        | .checkpointing | .rolling =>
          if (s.ring r).phase.sub = .mark then (s2.setRing r (s2.ring r).withdrawMark).breakRing r .score
          else s2.breakRing r .score
        | .opening => s2.openFail r .score
        | .closed | .broken => s2
      else s2)

/-- The move to BROKEN (R143), which a ring that is CLOSED, OPENING or already BROKEN does not make (R144, R145): the ring's
own state, its contexts by the table of R59, its steered reads whose access waits (R124), and the accesses withdrawn (R59,
R118); the host writes and reads released are decided in a free order (log 5), behind the requests decided before, which
wait only while the forward buffer is full (R159). -/
def Obligations.BreakStopsJournaling : Prop :=
  ∀ (s : State) (r : RingId) (cause : Cause), (s.decided ≠ [] → s.forward.length = 4) →
    ((s.ring r).phase = .closed ∨ (s.ring r).phase.state = .opening ∨ (s.ring r).phase = .broken →
      s.breakRing r cause = s) ∧
    ((s.ring r).phase ≠ .closed → (s.ring r).phase.state ≠ .opening → (s.ring r).phase ≠ .broken →
      let u := s.breakRing r cause
      let waits : Steered → Bool := fun q => s.journal.any fun a =>
        a.owner == .steerHeader r q.req.tag || a.owner == .steerImage r q.req.tag
      let released : Context → Bool := fun y => y.ring == some r && (y.phase == .awaitFrontier ||
        (y.access == .waiting && (y.phase == .preRead || y.phase == .imageWrite || y.phase == .headerWrite)))
      u.ring r = { s.ring r with
        phase := .broken, lastCause := cause, timer := none, reason := none, markRetry := false, mark := none,
        restoreRetry := false, cursor := none, expected := none, restoreHeader := none, restoreImage := none,
        restored := 0, outstanding := [], touched := [], complete := false,
        steered := (s.ring r).steered.filter fun q => !waits q } ∧
      (∀ c, u.ctx c = (s.ctx c).map fun y =>
        if released y then { y with stopped := true, phase := .forwarded, access := .none }
        else if y.ring = some r then { y with stopped := true } else y) ∧
      (∃ moved : List HostRequest, moved.Perm ((List.finRange 8).filterMap (fun c => match s.ctx c with
            | some y => if released y then some y.req else none
            | none => none) ++ ((s.ring r).steered.filter waits).map (·.req)) ∧
        u.forward ++ u.decided.map (·.req) = s.forward ++ s.decided.map (·.req) ++ moved) ∧
      (∀ a, a ∈ u.journal ++ u.service ↔ a ∈ s.journal ++ s.service ∧ a.owner ≠ .restoreHeader r ∧
        a.owner ≠ .restoreImage r ∧ a.owner ≠ .restoreWrite r ∧ (∀ h, a.owner ≠ .steerHeader r h) ∧
        (∀ h, a.owner ≠ .steerImage r h) ∧ ∀ c y, a.owner.ctx? = some c → s.ctx c = some y → released y = false) ∧
      u.events = (s.raise (.broken r cause (s.ring r).live)).events ∧ (s.hold ≠ [] → u.passAsked = true) ∧
      u.ownTags = s.ownTags ∧ u.reports = s.reports ∧ u.hold = s.hold ∧ u.ready = s.ready ∧ OnlyRing r s u)

/-- The failure of an open (R136): CLOSED with the positions at 0, the arming flags clear and the scan state reset, the
score, configuration and last cause kept; waiting accesses of the open are withdrawn and issued ones become orphans. -/
def Obligations.OpenFailure : Prop :=
  ∀ (s : State) (r : RingId) (cause : Cause),
    let u := s.openFail r cause
    let mine : Owner → Prop := fun o =>
      o = .freshMark r ∨ o = .walkHeader r ∨ o = .walkImage r ∨ ∃ cell, o = .searchHeader r cell
    (u.ring r).phase = .closed ∧ (u.ring r).release = 0 ∧ (u.ring r).produce = 0 ∧ (u.ring r).live = 0 ∧
    (u.ring r).nextSeq = 0 ∧ (u.ring r).epoch = 0 ∧ (u.ring r).frontier = 0 ∧ (u.ring r).touched = [] ∧
    (u.ring r).complete = false ∧ (u.ring r).highArmed = false ∧ (u.ring r).fullArmed = false ∧
    (u.ring r).timer = none ∧ (u.ring r).markRetry = false ∧ (u.ring r).openMode = none ∧ (u.ring r).scanPart = none ∧
    (u.ring r).searchCell = 0 ∧ (u.ring r).scanReads = 0 ∧ (u.ring r).newest = none ∧ (u.ring r).walkCell = none ∧
    (u.ring r).walkCount = 0 ∧ (u.ring r).score = (s.ring r).score ∧ (u.ring r).config = (s.ring r).config ∧
    (u.ring r).lastCause = (s.ring r).lastCause ∧ (u.ring r).inFlight = (s.ring r).inFlight ∧
    (∀ o owner n, s.ownTag o = .inUse (some owner) n → mine owner → u.ownTag o = .inUse none n) ∧
    (∀ o, (∀ owner n, s.ownTag o = .inUse (some owner) n → ¬mine owner) → u.ownTag o = s.ownTag o) ∧
    (∀ a, a ∈ u.journal ++ u.service ↔ a ∈ s.journal ++ s.service ∧ ¬mine a.owner) ∧
    u.events = (s.raise (.openFailed r cause)).events ∧ (s.hold ≠ [] → u.passAsked = true) ∧
    u.contexts = s.contexts ∧ OnlyRing r s u

/-- CHECKPOINT_MARK_WRITE_COMPLETE (R98 to R101) and ROLLBACK_MARK_WRITE_COMPLETE (R115 to R117, R119). OKAY completes the
operation: a new epoch from the mark's cell, ACTIVE, and CHECKPOINTED or ROLLED-BACK raised. A first failure repeats the
write; a second withdraws the mark and breaks the ring with MARK-FAILED; a failure whose report reaches 160 has ended the
operation in the report (R151). -/
def Obligations.CheckpointAndRollbackMarkOutcome : Prop :=
  ∀ (s : State) (o : OwnTag) (n : Nat) (r : RingId) (m : Mark) (reason : CkptReason) (st : MemStatus),
    s.inReset = false → (s.ring r).mark = some m →
    let x := s.ring r
    let failed := (s.setOwnTag o .free).report r false
    let begun := { x with
      score := x.score - 1, release := m.cell, live := 1, epoch := m.epoch, frontier := m.seq, outstanding := [],
      touched := [], complete := true, highArmed := true, fullArmed := true, markRetry := false, mark := none,
      phase := .active, timer := intervalTime x.config.interval }
    let fails := fun owner : Owner =>
      if x.score < 160 ∧ 160 ≤ x.score + 16 then failed
      else if x.markRetry then
        (failed.setRing r { failed.ring r with
          produce := m.cell, live := x.live - 1, nextSeq := m.seq, mark := none }).breakRing r .markFailed
      else
        { failed.setRing r { failed.ring r with markRetry := true } with
          journal := s.journal ++ [headerWrite owner x.config m.cell (markHeader r x.config.tag m)] }
    (s.ownTag o = .inUse (some (.checkpointMark r)) n → (s.ring r).phase = .checkpointingMark →
      (s.ring r).reason = some reason → exec (.checkpointMarkWriteComplete o st) s = .next
        (if st = .okay then
          (((s.setOwnTag o .free).setRing r { begun with reason := none }).raise
            (.checkpointed r reason m.epoch m.released)).askPass
         else fails (.checkpointMark r))) ∧
    (s.ownTag o = .inUse (some (.rollbackMark r)) n → (s.ring r).phase = .rollingMark →
      exec (.rollbackMarkWriteComplete o st) s = .next
        (if st = .okay then
          (((s.setOwnTag o .free).setRing r { begun with restored := 0 }).raise
            (.rolledBack r m.epoch x.restored)).askPass
         else fails (.rollbackMark r)))

/-- FRESH_MARK_WRITE_COMPLETE (R130, R131, R136): OKAY completes the open in epoch 1; a first failure repeats the write, a
second fails the open with cause MARK-FAILED, and a report that reaches 160 has failed it with cause SCORE. -/
def Obligations.FreshMarkOutcome : Prop :=
  ∀ (s : State) (o : OwnTag) (n : Nat) (r : RingId) (m : Mark) (st : MemStatus),
    s.inReset = false → s.ownTag o = .inUse (some (.freshMark r)) n → (s.ring r).phase = .openingMark →
    (s.ring r).mark = some m → m.cell = 0 → m.seq = 1 → m.epoch = 1 →
    let x := s.ring r
    let failed := (s.setOwnTag o .free).report r false
    exec (.freshMarkWriteComplete o st) s = .next
      (if st = .okay then
        (((s.setOwnTag o .free).setRing r { x with
          score := x.score - 1, release := 0, live := 1, epoch := 1, frontier := 1, outstanding := [], touched := [],
          complete := true, highArmed := true, fullArmed := true, openMode := none, markRetry := false, mark := none,
          phase := .active, timer := intervalTime x.config.interval }).raise (.opened r .fresh 1 1)).askPass
       else if x.score < 160 ∧ 160 ≤ x.score + 16 then failed
       else if x.markRetry then failed.openFail r .markFailed
       else
        { failed.setRing r { failed.ring r with markRetry := true } with
          journal := s.journal ++ [headerWrite (.freshMark r) x.config 0 (markHeader r x.config.tag m)] })

/-! ### The write-ahead path (chapter 3) -/

/-- PRE_READ_COMPLETE (R44, R45, R59). OKAY stores the image and moves the context to RESERVE, or, with journaling stopped,
forwards the host write; ERROR answers the host write ERROR, whatever the ring's state, and neither forwards nor
retries it. That a stopped context forwards without storing the image is the model's choice (log 30). -/
def Obligations.PreReadOutcome : Prop :=
  ∀ (s : State) (o : OwnTag) (n : Nat) (c : CtxId) (y : Context) (r : RingId) (st : MemStatus) (data : List Byte),
    s.inReset = false → s.ownTag o = .inUse (some (.preRead c)) n → s.ctx c = some y → y.phase = .preRead →
    y.access = .issued o → y.ring = some r →
    let good := (s.setOwnTag o .free).setRing r { s.ring r with score := (s.ring r).score - 1 }
    (st = .okay → y.stopped = false → exec (.preReadComplete o st data) s = .next
      (good.setCtx c (some { y with image := some data, phase := .reserve, access := .none }))) ∧
    (st = .okay → y.stopped = true → exec (.preReadComplete o st data) s = .next
      ((good.setCtx c (some { y with phase := .forwarded, access := .none })).decide ⟨.context c, y.req⟩)) ∧
    (st ≠ .okay → ∃ stop, exec (.preReadComplete o st data) s = .next
      ((((s.setOwnTag o .free).report r false).setCtx c (some { y with
        phase := .answering, access := .none, image := none, stopped := stop })).respond y.req.tag .error []))

/-- RESERVATION_REQUEST that is granted (R8, R10, R11, R12, R17, R46, R49, R65): the record takes the next sequence number
and the produce cell, the line is offered to the touched-line set, FILL-HIGH is raised once at the high-water level, and
the image write is requested at offset 64 of the cell. -/
def Obligations.ReservationGranted : Prop :=
  ∀ (s : State) (c : CtxId) (y : Context) (r : RingId) (image : List Byte), s.inReset = false → s.ctx c = some y →
    y.phase = .reserve → y.ring = some r → y.stopped = false → y.image = some image →
    ((s.ring r).phase = .active ∨ (s.ring r).phase = .checkpointingDrain ∨ (s.ring r).phase = .rollingDrain ∨
      (s.ring r).phase = .closingDrain) →
    (s.ring r).nextSeq ≠ 0 → (s.ring r).live + 2 ≤ (s.ring r).config.cells →
    let x := s.ring r
    let line := y.req.line
    let high := x.config.highWater ≠ 0 ∧ x.config.highWater ≤ x.live + 1 ∧ x.highArmed = true
    let known := ∃ e ∈ x.touched, e.line = line
    ∃ t, exec (.reservationRequest c) s = .next t ∧
      (∀ q, q ≠ r → t.ring q = s.ring q) ∧ (∀ k, k ≠ c → t.ctx k = s.ctx k) ∧
      t.ctx c = some { y with
        reserved := some { seq := x.nextSeq, cell := x.produce, tag := x.config.tag, epoch := x.epoch }
        phase := .imageWrite, access := .waiting } ∧
      t.journal = s.journal ++ [imageWrite (.imageWrite c) x.config x.produce image] ∧
      t.ring r = { x with
        nextSeq := x.nextSeq + 1, produce := (x.produce + 1) % x.config.cells, live := x.live + 1,
        outstanding := x.outstanding ++ [{ seq := x.nextSeq, cell := x.produce, durable := false }],
        touched := (t.ring r).touched, complete := (t.ring r).complete, highArmed := (t.ring r).highArmed } ∧
      (x.complete = true → ¬known → x.touched.length < 256 →
        (t.ring r).touched = x.touched ++ [{ line, cell := x.produce, restored := false }] ∧
          (t.ring r).complete = true) ∧
      (x.complete = true → ¬known → 256 ≤ x.touched.length →
        (t.ring r).touched = x.touched ∧ (t.ring r).complete = false) ∧
      (x.complete = false ∨ known → (t.ring r).touched = x.touched ∧ (t.ring r).complete = x.complete) ∧
      (high → (t.ring r).highArmed = false ∧ t.events = (s.raise (.fillHigh r (x.live + 1))).events) ∧
      (¬high → (t.ring r).highArmed = x.highArmed ∧ t.events = s.events) ∧
      t = { s with
        rings := t.rings, contexts := t.contexts, journal := t.journal, events := t.events, overrun := t.overrun,
        eventNumber := t.eventNumber }

/-- RESERVATION_REQUEST that is not granted (R8, R11, R14, R15, R47, R48): in the order exhaustion, fill level. A stopped
context, and one of a BROKEN or CLOSED ring, is answered UNJOURNALED and changes nothing in the ring; an exhausted ring
breaks with SEQUENCE; a full ring answers FULL under REFUSE, raising RING-FULL once, and breaks with FULL under BREAK. In
the sub-phases R11 does not list the answer is UNJOURNALED (DEDUCED, log 20). That the host write of the requester comes
behind those its break releases is DEDUCED (log 24). -/
def Obligations.ReservationRefused : Prop :=
  ∀ (s : State) (c : CtxId) (y : Context) (r : RingId), s.inReset = false → s.ctx c = some y → y.phase = .reserve →
    y.ring = some r →
    let x := s.ring r
    let takes := x.phase = .active ∨ x.phase = .checkpointingDrain ∨ x.phase = .rollingDrain ∨ x.phase = .closingDrain
    let goesOn := fun u : State => (u.setCtx c (some { y with
      image := none, stopped := true, phase := .forwarded, access := .none })).decide ⟨.context c, y.req⟩
    exec (.reservationRequest c) s = .next
      (if y.stopped = true ∨ x.phase = .broken ∨ x.phase = .closed then goesOn s
       else if takes ∧ x.nextSeq = 0 then goesOn (s.breakRing r .sequence)
       else if takes ∧ x.config.cells < x.live + 2 then
         (if x.config.policy = .breaks then goesOn (s.breakRing r .full)
          else ((if x.fullArmed then (s.setRing r { x with fullArmed := false }).raise (.ringFull r) else s).setCtx c
            (some { y with phase := .answering, access := .none, image := none })).respond y.req.tag .error [])
       else if takes then s.grantReservation c r y else goesOn s)

/-- IMAGE_WRITE_COMPLETE (R49, R51, R59). OKAY clears retry used and requests the header write. A first failure repeats the
write; a second breaks the ring with RECORD-FAILED and forwards the host write. With journaling stopped, before or by
this outcome's report, the host write is forwarded whatever the outcome. That it comes behind the host writes the break
releases is DEDUCED (log 24). -/
def Obligations.ImageWriteOutcome : Prop :=
  ∀ (s : State) (o : OwnTag) (n : Nat) (c : CtxId) (y : Context) (r : RingId) (v : Reserved) (image : List Byte)
    (st : MemStatus), s.inReset = false → s.ownTag o = .inUse (some (.imageWrite c)) n → s.ctx c = some y →
    y.phase = .imageWrite → y.access = .issued o → y.ring = some r → y.reserved = some v → y.image = some image →
    let x := s.ring r
    let u := (s.setOwnTag o .free).report r (st == .okay)
    let reaches := x.score < 160 ∧ 160 ≤ x.score + 16
    let leaves := fun z : State => (z.setCtx c (some { y with
      phase := .forwarded, access := .none, stopped := true })).decide ⟨.context c, y.req⟩
    (y.stopped = true → exec (.imageWriteComplete o st) s = .next (leaves u)) ∧
    (y.stopped = false → st = .okay → exec (.imageWriteComplete o st) s = .next
      { u.setCtx c (some { y with retryUsed := false, phase := .headerWrite, access := .waiting }) with
        journal := s.journal ++ [headerWrite (.headerWrite c) x.config v.cell (preImageHeader r v y.req.line image)] }) ∧
    (y.stopped = false → st ≠ .okay → x.phase.mayBreak = true →
      (reaches → x.phase.sub ≠ .mark → exec (.imageWriteComplete o st) s = .next (leaves u)) ∧
      (¬reaches → y.retryUsed = true →
        exec (.imageWriteComplete o st) s = .next (leaves (u.breakRing r .recordFailed))) ∧
      (¬reaches → y.retryUsed = false → exec (.imageWriteComplete o st) s = .next
        { u.setCtx c (some { y with retryUsed := true, access := .waiting }) with
          journal := s.journal ++ [imageWrite (.imageWrite c) x.config v.cell image] }))

/-- HEADER_WRITE_COMPLETE (R50, R51, R59). OKAY makes the record durable: a durability report goes to the ring controller,
also from a stopped context, and the context awaits the frontier or, stopped, forwards. Failures as for the image
write, with the order of log 24 (DEDUCED) after a break. -/
def Obligations.HeaderWriteOutcome : Prop :=
  ∀ (s : State) (o : OwnTag) (n : Nat) (c : CtxId) (y : Context) (r : RingId) (v : Reserved) (image : List Byte)
    (st : MemStatus), s.inReset = false → s.ownTag o = .inUse (some (.headerWrite c)) n → s.ctx c = some y →
    y.phase = .headerWrite → y.access = .issued o → y.ring = some r → y.reserved = some v → y.image = some image →
    let x := s.ring r
    let u := (s.setOwnTag o .free).report r (st == .okay)
    let reaches := x.score < 160 ∧ 160 ≤ x.score + 16
    let reported := fun z : State => { z with reports := s.reports ++ [⟨r, v.seq⟩] }
    let leaves := fun z : State => (z.setCtx c (some { y with
      phase := .forwarded, access := .none, stopped := true })).decide ⟨.context c, y.req⟩
    (y.stopped = true → st = .okay → exec (.headerWriteComplete o st) s = .next (leaves (reported u))) ∧
    (y.stopped = true → st ≠ .okay → exec (.headerWriteComplete o st) s = .next (leaves u)) ∧
    (y.stopped = false → st = .okay → exec (.headerWriteComplete o st) s = .next
      ((reported u).setCtx c (some { y with phase := .awaitFrontier, access := .none }))) ∧
    (y.stopped = false → st ≠ .okay → x.phase.mayBreak = true →
      (reaches → x.phase.sub ≠ .mark → exec (.headerWriteComplete o st) s = .next (leaves u)) ∧
      (¬reaches → y.retryUsed = true →
        exec (.headerWriteComplete o st) s = .next (leaves (u.breakRing r .recordFailed))) ∧
      (¬reaches → y.retryUsed = false → exec (.headerWriteComplete o st) s = .next
        { u.setCtx c (some { y with retryUsed := true, access := .waiting }) with
          journal := s.journal ++ [headerWrite (.headerWrite c) x.config v.cell (preImageHeader r v y.req.line image)] }))

/-- DURABILITY_REPORT (R18, R19, R52). A report that a context has sent is taken: it sets the durable flag of its entry and
the durable head of the list leaves; the frontier becomes the last number removed, and exactly the contexts of the ring in
AWAIT-FRONTIER at or below it move to FORWARDED, their host writes decided in a free order (log 5), behind the requests
decided before, which wait only while the forward buffer is full (R159). A report that names no entry changes nothing in the
ring. -/
def Obligations.DurabilityReportMovesTheFrontier : Prop :=
  ∀ (s : State) (r : RingId) (seq : Seq), s.inReset = false → ⟨r, seq⟩ ∈ s.reports →
    (s.decided ≠ [] → s.forward.length = 4) →
    let x := s.ring r
    let marked := x.outstanding.map fun e => if e.seq = seq then { e with durable := true } else e
    let gone := marked.takeWhile fun e => e.durable
    let known := ∃ e ∈ x.outstanding, e.seq = seq
    ∃ t, exec (.durabilityReport r seq) s = .next t ∧ t.reports = s.reports.erase ⟨r, seq⟩ ∧
      (known → (t.ring r).outstanding = marked.dropWhile fun e => e.durable) ∧
      (∀ e, known → gone.getLast? = some e → (t.ring r).frontier = e.seq) ∧
      (¬known ∨ gone = [] → (t.ring r).frontier = x.frontier ∧ t.contexts = s.contexts ∧ t.forward = s.forward ∧
        t.decided = s.decided) ∧
      (¬known → (t.ring r).outstanding = x.outstanding) ∧
      t.ring r = { x with outstanding := (t.ring r).outstanding, frontier := (t.ring r).frontier } ∧
      (known → (t.ring r).frontier ≠ x.frontier →
        let passes : Context → Bool := fun y => y.ring == some r && y.phase == .awaitFrontier &&
          y.reserved.any fun v => v.seq ≤ (t.ring r).frontier
        (∀ c, t.ctx c = (s.ctx c).map fun y => if passes y then { y with phase := .forwarded } else y) ∧
        ∃ moved : List HostRequest, moved.Perm ((List.finRange 8).filterMap fun c => match s.ctx c with
            | some y => if passes y then some y.req else none
            | none => none) ∧
          t.forward ++ t.decided.map (·.req) = s.forward ++ s.decided.map (·.req) ++ moved) ∧
      (∀ q, q ≠ r → t.ring q = s.ring q) ∧
      t = { s with
        rings := t.rings, contexts := t.contexts, reports := t.reports, forward := t.forward, decided := t.decided,
        script := t.script, drawn := t.drawn }

/-! ### Restore, steering and the recovery scan (chapters 7 and 8) -/

/-- The tests of a record read back, field by field of R180: by the restore (R109), by steering (R122), and by the search
(R132) and the header test of the walk (R134). -/
def Obligations.RecordTests : Prop :=
  ∀ (x : Ring) (r : RingId) (h image : List Byte) (line : Addr) (m : NewestMark),
    let own := byteAt h 2 = r.val ∧ fieldAt h 4 2 = x.config.tag.toNat
    (x.restorePasses r h image = true ↔ fieldAt h 0 2 = 0x7E01 ∧ own ∧ fieldAt h 6 4 = x.epoch.toNat ∧
      x.expected = some (BitVec.ofNat 64 (fieldAt h 16 8)) ∧ fieldAt h 28 4 = (crc32 (h.take 28 ++ image)).toNat) ∧
    (x.steerPasses r line h image = true ↔ fieldAt h 0 2 = 0x7E01 ∧ own ∧ fieldAt h 6 4 = x.epoch.toNat ∧
      fieldAt h 10 5 = line.toNat ∧ fieldAt h 28 4 = (crc32 (h.take 28 ++ image)).toNat) ∧
    (x.validMark r h = true ↔ fieldAt h 0 2 = 0x7E02 ∧ own ∧ fieldAt h 16 8 ≠ 0 ∧ fieldAt h 6 4 ≠ 0 ∧
      fieldAt h 28 4 = (crc32 (h.take 28)).toNat) ∧
    (m.seq.toNat + x.walkCount + 1 < 2 ^ 64 → (x.walkPasses r m h = true ↔ fieldAt h 0 2 = 0x7E01 ∧ own ∧
      fieldAt h 16 8 = m.seq.toNat + x.walkCount + 1 ∧ fieldAt h 6 4 = m.epoch.toNat ∧ fieldAt h 10 5 % 64 = 0))

/-- RESTORE_READ_COMPLETE (R108, R109, R118, R145). A header read OKAY leads to the image read of the same cell; an image
read OKAY leads, if the record passes, to the restore write at the line the header names, and breaks the ring with CHECKSUM
if it does not; a failed read breaks it with RESTORE-FAILED, unless its report has broken it with SCORE. In a ring that has
left ROLLING/RESTORE the outcome only counts, and the drain that waits for it is tested (R58). -/
def Obligations.RestoreReadOutcome : Prop :=
  ∀ (s : State) (o : OwnTag) (n : Nat) (r : RingId) (st : MemStatus) (data : List Byte), s.inReset = false →
    (s.ownTag o = .inUse (some (.restoreHeader r)) n ∨ s.ownTag o = .inUse (some (.restoreImage r)) n) →
    let x := { s.ring r with score := (s.ring r).score - 1 }
    let u := s.setOwnTag o .free
    let reaches := (s.ring r).score < 160 ∧ 160 ≤ (s.ring r).score + 16
    (∀ cell, x.phase = .rollingRestore → s.ownTag o = .inUse (some (.restoreHeader r)) n → x.cursor = some cell →
      st = .okay → exec (.restoreReadComplete o st data) s = .next
        { u.setRing r { x with restoreHeader := some data } with
          service := s.service ++ [imageRead (.restoreImage r) x.config cell] }) ∧
    (∀ h, x.phase = .rollingRestore → s.ownTag o = .inUse (some (.restoreImage r)) n → x.restoreHeader = some h →
      st = .okay → exec (.restoreReadComplete o st data) s = .next
        (if x.restorePasses r h data then
          { u.setRing r { x with restoreImage := some data } with
            service := s.service ++ [⟨.restoreWrite r, .write, BitVec.ofNat 40 (fieldAt h 10 5), 3, data⟩] }
         else (u.setRing r x).breakRing r .checksum)) ∧
    (∀ cell, x.phase = .rollingRestore → s.ownTag o = .inUse (some (.restoreHeader r)) n → x.cursor = some cell →
      st ≠ .okay → exec (.restoreReadComplete o st data) s = .next
        (if reaches then u.report r false else (u.report r false).breakRing r .restoreFailed)) ∧
    (∀ h, x.phase = .rollingRestore → s.ownTag o = .inUse (some (.restoreImage r)) n → x.restoreHeader = some h →
      st ≠ .okay → exec (.restoreReadComplete o st data) s = .next
        (if reaches then u.report r false else (u.report r false).breakRing r .restoreFailed)) ∧
    (x.phase ≠ .rollingRestore → exec (.restoreReadComplete o st data) s = .next
      ((u.report r (st == .okay)).drainTest r))

/-- RESTORE_WRITE_COMPLETE (R70, R110, R111, R118, R145). OKAY marks the cell restored, raises the restored count and steps
the cursor back; the next record's header is read, unless the cursor has reached the release cell. A first failure repeats
the write; a second breaks the ring with RESTORE-FAILED, unless a report has broken it with SCORE. In a ring that
has left ROLLING/RESTORE the outcome only counts, and the drain that waits for it is tested (R58). The restore ends with
the cursor at the release cell and no steered read left (R113): the rollback's mark is reserved at the produce cell with
reason ROLLBACK and its write requested, or the ring breaks with SEQUENCE (R114, R119). -/
def Obligations.RestoreWriteOutcome : Prop :=
  (∀ (s : State) (o : OwnTag) (n : Nat) (r : RingId) (st : MemStatus) (cell : Nat) (q : Seq) (h image : List Byte),
    s.inReset = false → s.ownTag o = .inUse (some (.restoreWrite r)) n →
    (s.ring r).cursor = some cell → (s.ring r).expected = some q → (s.ring r).restoreHeader = some h →
    (s.ring r).restoreImage = some image →
    let x := s.ring r
    let next := (cell + x.config.cells - 1) % x.config.cells
    let y := { x with
      score := x.score - 1, restored := x.restored + 1, restoreImage := none, restoreHeader := none,
      restoreRetry := false, cursor := some next, expected := some (q - 1),
      touched := x.touched.map fun e => if e.cell = cell then { e with restored := true } else e }
    let u := s.setOwnTag o .free
    let failed := u.report r false
    (x.phase = .rollingRestore → st = .okay → next ≠ x.release → exec (.restoreWriteComplete o st) s = .next
      { u.setRing r y with
        service := s.service ++ [headerRead (.restoreHeader r) x.config next] }) ∧
    (x.phase = .rollingRestore → st = .okay → next = x.release → x.steered ≠ [] →
      exec (.restoreWriteComplete o st) s = .next (u.setRing r y)) ∧
    (x.phase = .rollingRestore → st = .okay → next = x.release → x.steered = [] →
      exec (.restoreWriteComplete o st) s = .next ((u.setRing r y).rollbackMark r)) ∧
    (x.phase = .rollingRestore → st ≠ .okay → exec (.restoreWriteComplete o st) s = .next
      (if x.score < 160 ∧ 160 ≤ x.score + 16 then failed
       else if x.restoreRetry then failed.breakRing r .restoreFailed
       else
        { failed.setRing r { failed.ring r with restoreRetry := true } with
          service := s.service ++ [⟨.restoreWrite r, .write, BitVec.ofNat 40 (fieldAt h 10 5), 3, image⟩] }))) ∧
  (∀ (s : State) (o : OwnTag) (n : Nat) (r : RingId) (st : MemStatus), s.inReset = false →
    s.ownTag o = .inUse (some (.restoreWrite r)) n → (s.ring r).phase ≠ .rollingRestore →
    exec (.restoreWriteComplete o st) s = .next
      (((s.setOwnTag o .free).report r (st == .okay)).drainTest r)) ∧
  ∀ (s : State) (r : RingId),
    let x := s.ring r
    let m : Mark :=
      { cell := x.produce, seq := x.nextSeq, epoch := if x.epoch.toNat = 4294967295 then 1 else x.epoch + 1,
        reason := .rollback, released := x.live - 1 }
    s.rollbackMark r = if x.nextSeq = 0 then s.breakRing r .sequence else
      { s.setRing r { x with
          phase := .rollingMark, cursor := none, expected := none, mark := some m,
          produce := (x.produce + 1) % x.config.cells, live := x.live + 1, nextSeq := x.nextSeq + 1 } with
        journal := s.journal ++ [headerWrite (.rollbackMark r) x.config x.produce (markHeader r x.config.tag m)] }

/-- STEERING_READ_COMPLETE (R122, R123, R124). While the ring is ROLLING: a header read OKAY leads to the image read; an
image read OKAY answers the host read with the image's bytes at its offset if the record passes, and ERROR if not; a failed
read answers ERROR. In a ring that has left ROLLING, or that this outcome's report has broken, the host read is forwarded
whatever the outcome. A read that has ended is no longer steered, and the end of the restore (R113) and the drain that wait
for it are tested (R58). -/
def Obligations.SteeringReadOutcome : Prop :=
  ∀ (s : State) (o : OwnTag) (n : Nat) (r : RingId) (t : HostTag) (q : Steered) (st : MemStatus) (data : List Byte),
    s.inReset = false →
    (s.ownTag o = .inUse (some (.steerHeader r t)) n ∨ s.ownTag o = .inUse (some (.steerImage r t)) n) →
    let z := (s.setOwnTag o .free).report r (st == .okay)
    let x := z.ring r
    let ends := fun u : State =>
      ((u.setRing r { u.ring r with
        steered := (u.ring r).steered.filter fun p => p.req.tag != t }).restoreEndTest r).drainTest r
    x.steered.find? (fun p => p.req.tag == t) = some q →
    (x.phase.state = .rolling → st = .okay → q.header = none → exec (.steeringReadComplete o st data) s = .next
      { z.setRing r { x with
          steered := x.steered.map fun p => if p.req.tag = t then { p with header := some data } else p } with
        journal := z.journal ++ [imageRead (.steerImage r t) x.config q.cell] }) ∧
    (∀ h, x.phase.state = .rolling → st = .okay → q.header = some h → exec (.steeringReadComplete o st data) s = .next
      (ends (if x.steerPasses r (lineOf q.req.addr) h data then
          z.respond t .okay ((data.drop (q.req.addr.toNat % 64)).take (8 <<< q.req.size.toNat))
        else z.respond t .error []))) ∧
    (x.phase.state = .rolling → st ≠ .okay →
      exec (.steeringReadComplete o st data) s = .next (ends (z.respond t .error []))) ∧
    (x.phase.state ≠ .rolling →
      exec (.steeringReadComplete o st data) s = .next (ends (z.decide ⟨.ring r, q.req⟩)))

/-- SEARCH_READ_COMPLETE (R132, R133): a valid mark replaces the newest mark when its number is higher, or equal in a lower
cell; the next cell's header read is requested, and when the reads of all cells have ended the walk begins at the cell
after the newest mark's, or the open fails with NO-JOURNAL. A failed read whose report reaches 160 has failed the open. -/
def Obligations.SearchReadOutcome : Prop :=
  ∀ (s : State) (o : OwnTag) (n : Nat) (r : RingId) (cell : Nat) (st : MemStatus) (data : List Byte),
    s.inReset = false → s.ownTag o = .inUse (some (.searchHeader r cell)) n → (s.ring r).phase = .openingScan →
    (s.ring r).scanPart = some .search → 1 ≤ (s.ring r).scanReads → (s.ring r).scanReads ≤ 4 →
    let z := (s.setOwnTag o .free).report r (st == .okay)
    let x := z.ring r
    let reaches := st ≠ .okay ∧ (s.ring r).score < 160 ∧ 160 ≤ (s.ring r).score + 16
    let found : NewestMark :=
      { cell, seq := BitVec.ofNat 64 (fieldAt data 16 8), epoch := BitVec.ofNat 32 (fieldAt data 6 4) }
    let better := match x.newest with
      | none => true
      | some m => decide (m.seq < found.seq ∨ (m.seq = found.seq ∧ found.cell < m.cell))
    let y := if st == .okay && x.validMark r data && better then { x with newest := some found } else x
    (reaches → exec (.searchReadComplete o st data) s = .next z) ∧
    (¬reaches → x.searchCell < x.config.cells → exec (.searchReadComplete o st data) s = .next
      { z.setRing r { y with searchCell := x.searchCell + 1 } with
        service := s.service ++ [headerRead (.searchHeader r x.searchCell) x.config x.searchCell] }) ∧
    (¬reaches → x.config.cells ≤ x.searchCell → 2 ≤ x.scanReads → exec (.searchReadComplete o st data) s = .next
      (z.setRing r { y with scanReads := x.scanReads - 1 })) ∧
    (¬reaches → x.config.cells ≤ x.searchCell → x.scanReads = 1 → y.newest = none →
      exec (.searchReadComplete o st data) s = .next
        ((z.setRing r { y with scanReads := 0 }).openFail r .noJournal)) ∧
    (∀ m, ¬reaches → x.config.cells ≤ x.searchCell → x.scanReads = 1 → y.newest = some m → 3 ≤ x.config.cells →
      let first := (m.cell + 1) % x.config.cells
      let walking := { y with scanPart := some .walk, walkCell := some first, walkCount := 0 }
      exec (.searchReadComplete o st data) s = .next
        (if m.seq = 0xFFFFFFFFFFFFFFFF then (z.setRing r { walking with scanReads := 0 }).recoverComplete r m
         else
          { z.setRing r { walking with scanReads := 1, walkHeader := none } with
            service := s.service ++ [headerRead (.walkHeader r) x.config first] }))

/-- WALK_READ_COMPLETE (R134): a header that passes leads to the image read of its cell; a whole record is accepted and the
walk goes on to the next header; anything else stops the walk and completes the open, and so do capacity − 2 accepted
records and the end of the sequence numbers. A failed read whose report reaches 160 has failed the open instead. The
completion (R135): the recovered live set, the frontier at its newest record, an empty and incomplete touched-line set,
ACTIVE, and OPENED raised with mode RECOVER. -/
def Obligations.WalkReadOutcome : Prop :=
  (∀ (s : State) (o : OwnTag) (n : Nat) (r : RingId) (m : NewestMark) (cell : Nat) (st : MemStatus) (data : List Byte),
    s.inReset = false → (s.ring r).phase = .openingScan → (s.ring r).newest = some m → (s.ring r).walkCell = some cell →
    let z := (s.setOwnTag o .free).report r (st == .okay)
    let x := z.ring r
    let reaches := st ≠ .okay ∧ (s.ring r).score < 160 ∧ 160 ≤ (s.ring r).score + 16
    let next := (cell + 1) % x.config.cells
    (s.ownTag o = .inUse (some (.walkHeader r)) n → exec (.walkReadComplete o st data) s = .next
      (if reaches then z
       else if st == .okay && x.walkPasses r m data then
        { z.setRing r { x with walkHeader := some data } with
          service := s.service ++ [imageRead (.walkImage r) x.config cell] }
       else z.recoverComplete r m)) ∧
    (∀ h, s.ownTag o = .inUse (some (.walkImage r)) n → (s.ring r).walkHeader = some h →
      exec (.walkReadComplete o st data) s = .next
        (if reaches then z
         else if st = .okay ∧ fieldAt h 28 4 = (crc32 (h.take 28 ++ data)).toNat then
          (let y := { x with walkCount := x.walkCount + 1, walkCell := some next, scanReads := 0, walkHeader := none }
           if x.config.cells ≤ x.walkCount + 3 ∨ 2 ^ 64 ≤ m.seq.toNat + x.walkCount + 2 then
             (z.setRing r y).recoverComplete r m
           else
            { z.setRing r { y with scanReads := 1 } with
              service := s.service ++ [headerRead (.walkHeader r) x.config next] })
         else z.recoverComplete r m))) ∧
  ∀ (s : State) (r : RingId) (m : NewestMark),
    let x := s.ring r
    s.recoverComplete r m = ((s.setRing r { x with
      release := m.cell, live := x.walkCount + 1, produce := (m.cell + (x.walkCount + 1)) % x.config.cells,
      nextSeq := m.seq + BitVec.ofNat 64 (x.walkCount + 1), frontier := m.seq + BitVec.ofNat 64 x.walkCount,
      epoch := m.epoch, outstanding := [], touched := [], complete := false, highArmed := true, fullArmed := true,
      openMode := none, scanPart := none, searchCell := 0, scanReads := 0, newest := none, walkCell := none,
      walkCount := 0, walkHeader := none, phase := .active, timer := intervalTime x.config.interval }).raise
      (.opened r .recover m.epoch (x.walkCount + 1))).askPass

/-! ### The host port, the classifier and the hold queue (chapters 2, 5 and 10) -/

/-- A request whose tag is outstanding is discarded at the act that takes it: the one effect is the event PROTOCOL with the
reused tag and ring absent, a second time as the first (R155). -/
def Obligations.ReusedTagIsDiscarded : Prop :=
  ∀ (s : State) (q : HostRequest), s.inReset = false → s.hold.length < 16 → s.forward.length < 4 →
    (∀ d ∈ s.decided, d.source ≠ .classifier) → s.tagEntry q.tag ≠ none →
    exec (.hostRequest q) s = .next (s.raise (.protocol q.tag)) ∧
    byteAt (eventRecord ⟨s.eventNumber, .protocol q.tag⟩) 2 = 0xFF ∧
    byteAt (eventRecord ⟨s.eventNumber, .protocol q.tag⟩) 12 = q.tag.val ∧
    (s.raise (.protocol q.tag)).tagEntry q.tag = s.tagEntry q.tag

/-- A request with a free tag whose size code is 4 to 7, or whose address is not a multiple of its size, is answered ERROR
in either mode, before it is classified: its tag becomes outstanding, the response becomes ready, and nothing else changes.
The tag stays outstanding until that response is returned. A request that crosses a line boundary is illegal (R156). -/
def Obligations.IllegalRequestIsAnsweredError : Prop :=
  (∀ (s : State) (q : HostRequest), s.inReset = false → s.hold.length < 16 → s.forward.length < 4 →
    (∀ d ∈ s.decided, d.source ≠ .classifier) → s.tagEntry q.tag = none →
    (4 ≤ q.size.toNat ∨ q.addr.toNat % (8 * 2 ^ q.size.toNat) ≠ 0) →
    ∃ t, exec (.hostRequest q) s = .next t ∧
      t = { s.setTag q.tag (some { kind := q.kind, counted := none, atMemory := false }) with
        ready := s.ready ++ [⟨q.tag, .error, []⟩] } ∧
      (t.tagEntry q.tag).isSome = true ∧
      (s.ready = [] → ∃ u, exec .responseReturn t = .next u ∧ u.hostOut = some ⟨q.tag, .error, []⟩ ∧
        u.tagEntry q.tag = none ∧ ∀ r, u.ring r = s.ring r)) ∧
  ∀ q : HostRequest, q.size.toNat < 4 →
    q.addr.toNat / 64 ≠ (q.addr.toNat + 8 * 2 ^ q.size.toNat - 1) / 64 → q.addr.toNat % (8 * 2 ^ q.size.toNat) ≠ 0

/-- HOST_REQUEST (R26, R154): not taken while the hold queue or the forward buffer is full or an arrival waits in the
classifier; a legal request with a free tag is forwarded in CONFIG, and classified in RUN. That the taking and the decision
of the treatment are one act, with nothing between them, is the model's choice (log 31). -/
def Obligations.HostRequestIsTaken : Prop :=
  ∀ (s : State) (q : HostRequest), s.inReset = false →
    (16 ≤ s.hold.length ∨ 4 ≤ s.forward.length ∨ (∃ d ∈ s.decided, d.source = .classifier) →
      exec (.hostRequest q) s = .next s) ∧
    (s.hold.length < 16 → s.forward.length < 4 → (∀ d ∈ s.decided, d.source ≠ .classifier) → s.tagEntry q.tag = none →
      q.size.toNat < 4 → q.addr.toNat % (8 * 2 ^ q.size.toNat) = 0 →
      let z := s.setTag q.tag (some { kind := q.kind, counted := none, atMemory := false })
      exec (.hostRequest q) s = .next
        (if s.mode = .config then { z with forward := s.forward ++ [q] } else z.arrive q))

/-- Matching: the region of lowest index among the enabled ones whose masked base equals the masked address (R32). The tests
and the acts of an arrival or a re-evaluated entry: the line test (R75), the context test (R77), counting (R33, R57, R157),
taking a context (R42, R44), and the treatment of a read handed over for steering (R69, R121, R122), whose hand-over and
decision are one act (the model's choice, log 28). -/
def Obligations.ClassifierTests : Prop :=
  (∀ (s : State) (a : Addr),
    let hits : Fin 12 → Prop := fun i => (s.region i).enable = true ∧
      a &&& (s.region i).mask = (s.region i).base &&& (s.region i).mask
    (s.regionFor a = none ↔ ∀ i, ¬hits i) ∧
    ∀ g, s.regionFor a = some g ↔ ∃ i, s.region i = g ∧ hits i ∧ ∀ j, j < i → ¬hits j) ∧
  ∀ (s : State) (ahead : List HoldEntry) (q : HostRequest) (r : RingId) (c : CtxId) (e : TagEntry),
    s.tagEntry q.tag = some e →
    (s.lineHeld ahead q.line = true ↔
      (∃ k x, s.ctx k = some x ∧ lineOf x.req.addr = lineOf q.addr) ∨ ∃ h ∈ ahead, lineOf h.req.addr = lineOf q.addr) ∧
    (s.contextFor ahead = none ↔ (∃ h ∈ ahead, h.reason = .context) ∨ ∀ k, s.ctx k ≠ none) ∧
    (∀ k, s.contextFor ahead = some k → s.ctx k = none) ∧
    s.countWrite r q.tag = (s.setRing r { s.ring r with inFlight := (s.ring r).inFlight + 1 }).setTag q.tag
      (some { e with counted := some r }) ∧
    s.takeContext c r q = { (s.countWrite r q.tag).setCtx c (some
        { req := q, ring := some r, phase := .preRead, image := none, reserved := none, retryUsed := false,
          access := .waiting, stopped := false }) with
      journal := s.journal ++ [⟨.preRead c, .read, lineOf q.addr, 3, []⟩] } ∧
    ((s.ring r).phase.state ≠ .rolling → s.steerRead r q = s.decide ⟨.ring r, q⟩) ∧
    ((s.ring r).phase.state = .rolling → (s.ring r).complete = false → s.steerRead r q = s.respond q.tag .retry []) ∧
    ((s.ring r).phase.state = .rolling → (s.ring r).complete = true →
      ((∀ t ∈ (s.ring r).touched, t.line ≠ lineOf q.addr) → s.steerRead r q = s.decide ⟨.ring r, q⟩) ∧
      ∀ t, (s.ring r).touched.find? (fun t => t.line == lineOf q.addr) = some t → s.steerRead r q =
        if t.restored then s.decide ⟨.ring r, q⟩ else
          { s.setRing r { s.ring r with
              steered := (s.ring r).steered ++ [{ req := q, cell := t.cell, header := none }] } with
            journal := s.journal ++ [headerRead (.steerHeader r q.tag) (s.ring r).config t.cell] })

/-- An arrival in RUN mode by class, ring state and kind (R33, R34, R35, R36, R38, R76): the line test stands before every
way of proceeding, and not before an answer at once or a hold for MARK or CLOSE. That nothing stands between the taking and
this decision (log 31), or between a read's hand-over for steering and the ring controller's decision (log 28), is the
model's choice. -/
def Obligations.ArrivalInRunMode : Prop :=
  ∀ (s : State) (q : HostRequest),
    let lined := fun (ring : Option RingId) (go : State) =>
      if s.lineHeld s.hold q.line then s.holdRequest ring q .line else go
    let sent := fun z : State => z.decide ⟨.classifier, q⟩
    s.arrive q = match (s.regionFor q.addr).map fun g => (g.cls, g.ring), q.kind with
      | none, _ | some (.pass, _), _ | some (.guard, _), .read => lined none (sent s)
      | some (.guard, _), .write => s.respond q.tag .error []
      | some (.journal, r), .read =>
        if (s.ring r).phase.state = .rolling then lined (some r) (s.steerRead r q) else lined (some r) (sent s)
      | some (.journal, r), .write => match (s.ring r).phase.state with
        | .closed | .broken => lined (some r) (sent (s.countWrite r q.tag))
        | .opening | .rolling => s.respond q.tag .retry []
        | .checkpointing => s.holdRequest (some r) q .mark
        | .closing => s.holdRequest (some r) q .close
        | .active => lined (some r) (
          if (s.ring r).touched.any fun e => e.line == q.line then sent (s.countWrite r q.tag)
          else match s.contextFor s.hold with
            | some c => s.takeContext c r q
            | none => s.holdRequest (some r) q .context)

/-- RE_EVALUATION (R26, R40, R78, R79). With no pass asked for nothing happens. A pass in CONFIG forwards the oldest entries
as far as the forward buffer has room. A pass in RUN goes from the oldest entry to the newest; `ahead` are the entries it has
left held. One visit, by class, ring state and kind (R78, R81): an entry behind its line stays for LINE; a write of a GUARD
region is answered ERROR, one of an OPENING or ROLLING ring RETRY; a write of a CHECKPOINTING or CLOSING ring stays; a read
of a ROLLING ring goes to its ring controller; a write that needs a context takes one or stays; every other entry is
forwarded, counted if it is a write of a ring, or stops the pass at a full buffer, where it and the entries behind it keep
their reasons and places (R79; the ring field of the stopped entry is DEDUCED, log 22). The pass keeps the order of the
entries, and, unless it stopped at a full buffer, leaves an entry held only for the reason the entry then carries. That the
answers of one pass become ready in the order of its visits, which R158 leaves open, is DEDUCED (log 23, unsafe); that a read
handed over for steering is decided in the same visit is the model's choice (log 28). -/
def Obligations.ReEvaluationPass : Prop :=
  (∀ s : State, s.inReset = false →
    (s.passAsked = false → exec .reEvaluation s = .next s) ∧
    (s.passAsked = true → s.mode = .config →
      let k := 4 - s.forward.length
      exec .reEvaluation s = .next { s with
        passAsked := false, passStopped := decide (k < s.hold.length), hold := s.hold.drop k,
        forward := s.forward ++ (s.hold.take k).map (·.req) }) ∧
    (s.passAsked = true → s.mode = .run → ∃ t, exec .reEvaluation s = .next t ∧
      t = { s with passAsked := false }.passOver [] s.hold ∧ t.passAsked = false ∧
      (t.hold.map (·.req)).Sublist (s.hold.map (·.req)) ∧
      ∀ older e younger, t.passStopped = false → t.hold = older ++ e :: younger → match e.reason with
        | .line => t.lineHeld older e.req.line = true
        | .mark => ∃ r, e.ring = some r ∧ (t.ring r).phase.state = .checkpointing
        | .close => ∃ r, e.ring = some r ∧ (t.ring r).phase.state = .closing
        | .context => ∃ r, e.ring = some r ∧ (t.ring r).phase = .active ∧ (t.ring r).tracked e.req.line = false ∧
          ((∃ h ∈ older, h.reason = .context) ∨ ∀ c, t.ctx c ≠ none))) ∧
  (∀ (s : State) (ahead : List HoldEntry), s.passOver ahead [] = { s with hold := ahead, passStopped := false }) ∧
  ∀ (s : State) (ahead younger : List HoldEntry) (e : HoldEntry), s.mode = .run →
    let stays := fun x : HoldEntry => s.passOver (ahead ++ [x]) younger
    let leaves := fun z : State => z.passOver ahead younger
    let sent := fun (ring : Option RingId) (z : State) =>
      if s.forward.length < 4 then leaves { z with forward := s.forward ++ [e.req] }
      else { s with hold := ahead ++ { e with ring } :: younger, passStopped := true }
    s.passOver ahead (e :: younger) =
      if s.lineHeld ahead e.req.line then stays { e with reason := .line }
      else match ((s.regionFor e.req.addr).map fun g => (g.cls, g.ring) : Option (RegionClass × RingId)), e.req.kind with
        | none, _ | some (.pass, _), _ | some (.guard, _), .read => sent none s
        | some (.guard, _), .write => leaves (s.respond e.req.tag .error [])
        | some (.journal, r), .read =>
          if (s.ring r).phase.state = .rolling then leaves (s.steerRead r e.req) else sent (some r) s
        | some (.journal, r), .write => match (s.ring r).phase.state with
          | .closed | .broken => sent (some r) (s.countWrite r e.req.tag)
          | .opening | .rolling => leaves (s.respond e.req.tag .retry [])
          | .checkpointing => stays { e with ring := some r, reason := .mark }
          | .closing => stays { e with ring := some r, reason := .close }
          | .active =>
            if (s.ring r).touched.any fun x => x.line == e.req.line then sent (some r) (s.countWrite r e.req.tag)
            else match s.contextFor ahead with
              | some c => leaves (s.takeContext c r e.req)
              | none => stays { e with ring := some r, reason := .context }

/-- MEMORY_RESPONSE (R160): the response to the request at memory under the tag, OKAY with the data of a read or ERROR
without; under any other tag it is discarded. RESPONSE_RETURN (R54, R57, R58, R158): the response that became ready first is
returned. In that act its tag is freed, the count of the ring that counted the request falls by one, the context that
carried it is freed and a pass asked for, and the drain of that ring is tested. -/
def Obligations.MemoryResponseAndItsReturn : Prop :=
  (∀ (s : State) (h : HostTag) (st : MemStatus) (data : List Byte), s.inReset = false →
    (∀ e, s.tagEntry h = some e → e.atMemory = true → exec (.memoryResponse h st data) s = .next
      ((s.setTag h (some { e with atMemory := false })).respond h (if st = .okay then .okay else .error)
        (if st = .okay ∧ e.kind = .read then data else []))) ∧
    ((s.tagEntry h = none ∨ ∃ e, s.tagEntry h = some e ∧ e.atMemory = false) →
      exec (.memoryResponse h st data) s = .next s)) ∧
  ∀ (s : State) (p : HostResponse) (ps : List HostResponse), s.inReset = false → s.ready = p :: ps →
    let counted := (s.tagEntry p.tag).bind (·.counted)
    ∃ z, exec .responseReturn s = .next (match counted with
        | some r => z.drainTest r
        | none => z) ∧
      z.hostOut = some p ∧ z.ready = ps ∧ z.tagEntry p.tag = none ∧ (∀ h, h ≠ p.tag → z.tagEntry h = s.tagEntry h) ∧
      (∀ r, z.ring r = if counted = some r then { s.ring r with inFlight := (s.ring r).inFlight - 1 } else s.ring r) ∧
      (∀ c x, s.ctx c = some x → z.ctx c = if x.req.tag = p.tag then none else some x) ∧
      (∀ c, s.ctx c = none → z.ctx c = none) ∧
      (∀ c x, s.ctx c = some x → x.req.tag = p.tag → s.hold ≠ [] → z.passAsked = true) ∧
      z = { s with
        rings := z.rings, contexts := z.contexts, tags := z.tags, ready := ps, hostOut := some p,
        passAsked := z.passAsked }

/-! ### The memory port (chapter 10) -/

/-- ARBITER_GRANT (R160, R161, R162). The class is the first eligible one in the cyclic order HOST, JOURNAL, SERVICE after the
class granted last, an own class being eligible only while an own tag is free. HOST issues the head of the forward buffer
under its host tag, and the longest-waiting decided request takes the place; JOURNAL and SERVICE issue their oldest access
under the lowest free own tag, with a timer of 1,000 µs. -/
def Obligations.ArbiterGrantsInCyclicOrder : Prop :=
  ∀ s : State, s.inReset = false →
    let own := ∃ o, s.ownTag o = .free
    let can : ArbClass → Prop := fun
      | .host => s.forward ≠ []
      | .journal => s.journal ≠ [] ∧ own
      | .service => s.service ≠ [] ∧ own
    let next : ArbClass → ArbClass := fun
      | .host => .journal
      | .journal => .service
      | .service => .host
    (s.granted = none ↔ ∀ k, ¬can k) ∧
    (∀ k, s.granted = some k ↔ can k ∧ (k = next s.lastClass ∨ (¬can (next s.lastClass) ∧
      (k = next (next s.lastClass) ∨ (¬can (next (next s.lastClass)) ∧ k = s.lastClass))))) ∧
    (s.granted = none → exec .arbiterGrant s = .next s) ∧
    (∀ q qs, s.granted = some .host → s.forward = q :: qs → ∃ t, exec .arbiterGrant s = .next t ∧ t.lastClass = .host ∧
      t.memOut = some ⟨q.tag.castLE (by decide), q.kind, q.addr, q.size, q.data, q.enables⟩ ∧
      t.tagEntry q.tag = (s.tagEntry q.tag).map (fun e => { e with atMemory := true }) ∧
      (∀ h, h ≠ q.tag → t.tagEntry h = s.tagEntry h) ∧
      t.forward = qs ++ (s.decided.take 1).map (·.req) ∧ t.decided = s.decided.drop 1 ∧
      t.passAsked = (s.passAsked || (s.decided.isEmpty && s.passStopped && !s.hold.isEmpty)) ∧
      t = { s with
        lastClass := t.lastClass, memOut := t.memOut, tags := t.tags, forward := t.forward, decided := t.decided,
        passAsked := t.passAsked }) ∧
    (∀ k a rest, s.granted = some k → (k = .journal ∧ s.journal = a :: rest ∨ k = .service ∧ s.service = a :: rest) →
      ∃ o t, exec .arbiterGrant s = .next t ∧ s.ownTag o = .free ∧ (∀ p, p < o → s.ownTag p ≠ .free) ∧
      t.ownTag o = .inUse (some a.owner) 1000 ∧ (∀ p, p ≠ o → t.ownTag p = s.ownTag p) ∧ t.lastClass = k ∧
      t.memOut = some ⟨o.natAdd 32, a.kind, a.addr, a.size, a.data, List.replicate a.data.length true⟩ ∧
      t.journal = (if k = .journal then rest else s.journal) ∧ t.service = (if k = .service then rest else s.service) ∧
      (∀ c, a.owner.ctx? = some c → t.ctx c = (s.ctx c).map fun x => { x with access := .issued o }) ∧
      (∀ c, a.owner.ctx? ≠ some c → t.ctx c = s.ctx c) ∧
      t = { s with
        lastClass := k, memOut := t.memOut, ownTags := t.ownTags, journal := t.journal, service := t.service,
        contexts := t.contexts })

/-- Outcomes under an own tag (R62, R163). A response frees the tag and reaches the owner, by the row of the owner's access;
OWN_ACCESS_TIMEOUT, when 1,000 µs have passed since the issue, quarantines the tag and reaches the owner as a failure does;
ORPHAN_RESPONSE, for an orphan or a quarantined tag, frees the tag and reaches no one. That OWN_ACCESS_TIMEOUT carries the µs
that pass before it (log 2), and that one whose time has not come, or whose tag is free or quarantined, only lets them pass
(log 1), are the model's choices. -/
def Obligations.OwnTagOutcomes : Prop :=
  ∀ (s : State) (o : OwnTag) (st : MemStatus) (data : List Byte), s.inReset = false →
    (∀ w n, s.ownTag o = .inUse (some w) n → exec (match w with
        | .preRead _ => .preReadComplete o st data
        | .imageWrite _ => .imageWriteComplete o st
        | .headerWrite _ => .headerWriteComplete o st
        | .checkpointMark _ => .checkpointMarkWriteComplete o st
        | .rollbackMark _ => .rollbackMarkWriteComplete o st
        | .freshMark _ => .freshMarkWriteComplete o st
        | .restoreHeader _ | .restoreImage _ => .restoreReadComplete o st data
        | .restoreWrite _ => .restoreWriteComplete o st
        | .steerHeader _ _ | .steerImage _ _ => .steeringReadComplete o st data
        | .searchHeader _ _ => .searchReadComplete o st data
        | .walkHeader _ | .walkImage _ => .walkReadComplete o st data) s = .next
      ((s.setOwnTag o .free).deliver w (match w, st with
        | .imageWrite _, .okay | .headerWrite _, .okay | .checkpointMark _, .okay | .rollbackMark _, .okay
        | .freshMark _, .okay | .restoreWrite _, .okay => .okay []
        | _, .okay => .okay data
        | _, _ => .failed))) ∧
    (∀ us w left, s.ownTag o = .inUse (some w) left → exec (.ownAccessTimeout o us) s = .next
      (if left ≤ us then ((s.passTime us).setOwnTag o .quarantined).deliver w .failed else s.passTime us)) ∧
    (∀ us left, s.ownTag o = .inUse none left → exec (.ownAccessTimeout o us) s = .next
      (if left ≤ us then (s.passTime us).setOwnTag o .quarantined else s.passTime us)) ∧
    (∀ us, s.ownTag o = .free ∨ s.ownTag o = .quarantined → exec (.ownAccessTimeout o us) s = .next (s.passTime us)) ∧
    (s.ownTag o = .quarantined ∨ (∃ n, s.ownTag o = .inUse none n) →
      exec (.orphanResponse o st data) s = .next (s.setOwnTag o .free)) ∧
    (s.ownTag o = .free → exec (.orphanResponse o st data) s = .next s)

/-! ### Layouts (chapter 12) -/

/-- The check of "123456789" (R181), and that what the bridge writes passes the tests of every reader: a PRE-IMAGE in the
restore, in steering and in the walk, a mark in the search (R5, R6, R109, R122, R132, R134, R180). -/
def Obligations.WrittenRecordsPassTheirReaders : Prop :=
  crc32 [0x31, 0x32, 0x33, 0x34, 0x35, 0x36, 0x37, 0x38, 0x39] = 0xCBF43926 ∧
  (∀ (x : Ring) (r : RingId) (v : Reserved) (a : Addr) (image : List Byte), v.tag = x.config.tag →
    let h := preImageHeader r v (lineOf a) image
    h.length = 32 ∧
    (v.epoch = x.epoch → x.expected = some v.seq → x.restorePasses r h image = true) ∧
    (v.epoch = x.epoch → x.steerPasses r (lineOf a) h image = true) ∧
    (∀ m : NewestMark, v.epoch = m.epoch → v.seq = m.seq + BitVec.ofNat 64 (x.walkCount + 1) →
      x.walkPasses r m h = true) ∧
    (parseHeader h).line = lineOf a ∧ (parseHeader h).check = checkOf h image) ∧
  ∀ (x : Ring) (r : RingId) (m : Mark), m.seq ≠ 0 → m.epoch ≠ 0 →
    let h := markHeader r x.config.tag m
    h.length = 32 ∧ x.validMark r h = true ∧ (parseHeader h).seq = m.seq ∧ (parseHeader h).epoch = m.epoch ∧
      byteAt h 3 = m.reason.code ∧ fieldAt h 24 4 = m.released % 2 ^ 32

/-! ### Laws over every step -/

/-- Every law holds of the machine right after reset (R23, R25, R64, R74, R148, R157, R179). -/
def Obligations.LawsHoldAtReset : Prop :=
  CapacityLaw State.reset ∧ SlotLaw State.reset ∧ ScoreLaw State.reset ∧ ModeLaw State.reset ∧
    SettledLaw State.reset ∧ LiveLaw State.reset ∧ NumberLaw State.reset ∧ TrafficLaw State.reset ∧ BelongingLaw State.reset

/-- Every step keeps the capacity laws (R64, R74, R159, R175), and the law of the command slots: the load order names the
LOADED slots, one command is executed at a time, and an answer that a RESPONSE read has taken waits for its end (R168, R170,
R172). -/
def Obligations.EveryStepKeepsTheCapacities : Prop :=
  ∀ s t, step s = .next t → (CapacityLaw s → CapacityLaw t) ∧ (SlotLaw s → SlotLaw t)

/-- Every step keeps the law of the fault score (R148), the law of the device mode (R25), and what each ring state says of
the epoch (R9) and of the fields of its operations (R72, R73, R89). -/
def Obligations.EveryStepKeepsTheRingStates : Prop :=
  ∀ s t, step s = .next t → (ScoreLaw s → ScoreLaw t) ∧ (ModeLaw s → ModeLaw t) ∧ (SettledLaw s → SettledLaw t)

/-- Every step keeps the law of the live set (R10, R13), in a state whose contexts belong to their rings as
EveryRequestStandsInOnePlace says they do: a record write that fails while a mark is written would break the ring with
the mark still reserved. -/
def Obligations.EveryStepKeepsTheLiveSet : Prop :=
  ∀ s t, LiveLaw s → BelongingLaw s → step s = .next t → LiveLaw t

/-- Every step keeps the numbering of records, and the durable frontier of a ring that is open before and after the step
never decreases; only an open starts it again (R19). -/
def Obligations.EveryStepKeepsTheNumbering : Prop :=
  ∀ s t, NumberLaw s → step s = .next t → NumberLaw t ∧
    ∀ r, (s.ring r).phase ≠ .closed → (t.ring r).phase ≠ .closed → (s.ring r).frontier ≤ (t.ring r).frontier

/-- Every step keeps every outstanding request in exactly one place and every in-flight count exact (R57, R157), and with
these the laws of contexts and held entries that belong to a ring (R58, R82). -/
def Obligations.EveryRequestStandsInOnePlace : Prop :=
  ∀ s t, TrafficLaw s → step s = .next t → TrafficLaw t ∧ (BelongingLaw s → BelongingLaw t)

/-- The write-ahead law of contexts (R53): a context is in FORWARDED with journaling not stopped after a step only if it was
so before, or if it left AWAIT-FRONTIER in the step with its own record at or below the ring's durable frontier. -/
def Obligations.WriteAheadLaw : Prop :=
  ∀ s t c y, step s = .next t → t.ctx c = some y → y.phase = .forwarded → y.stopped = false →
    ∃ z, s.ctx c = some z ∧ z.req = y.req ∧ z.stopped = false ∧ z.ring = y.ring ∧ z.reserved = y.reserved ∧
      (z.phase = .forwarded ∨ (z.phase = .awaitFrontier ∧ ∃ r v, y.ring = some r ∧ y.reserved = some v ∧
        v.seq ≤ (t.ring r).frontier))

/-- What a command for one ring, or an outcome of its own access, does stays in that ring: the other three ring controllers
are as they were. The ring is that of the command's record, or that of the owner of the access (R149, R171). The device mode
changes only by SET-MODE (R25), a region only by WRITE-REGION (R29), a ring's configuration only by CONFIGURE-RING and
SET-INTERVAL (R4); all three also by a device reset. -/
def Obligations.ActsStayInTheirRing : Prop :=
  (∀ (s t : State) (part : CommandPart) (i : SlotId) (rec : List Byte) (r : RingId) (c : Instr),
    c ∈ [Instr.checkpoint part, .rollback part, .openRing part, .closeRing part, .resetRing part, .configureRing part,
      .readRing part, .setInterval part] →
    s.commandAt part = some (i, rec) → byteAt rec 1 = r.val → exec c s = .next t →
    ∀ q : RingId, q ≠ r → t.ring q = s.ring q) ∧
  (∀ (s : State) (w : Owner) (e : AccessEnd) (r : RingId),
    (w.ring? = some r ∨ ∃ c x, w.ctx? = some c ∧ s.ctx c = some x ∧ x.ring = some r) →
    ∀ q : RingId, q ≠ r → (s.deliver w e).ring q = s.ring q) ∧
  ∀ (c : Instr) (s t : State), exec c s = .next t → c ≠ .deviceReset →
    ((∀ p, c ≠ .setMode p) → t.mode = s.mode) ∧ ((∀ p, c ≠ .writeRegion p) → t.regions = s.regions) ∧
    ((∀ p, c ≠ .configureRing p ∧ c ≠ .setInterval p) → ∀ r, (t.ring r).config = (s.ring r).config)

end
end

