-- ==== Sys2Proof/Laws/Bytes.lean ====
section
/-! SUPPORT. Bytes and numbers: lengths, and what a number written little-endian reads back as. -/

namespace Sys2Proof.Machine

@[simp] theorem leBytes_length (n v : Nat) : (leBytes n v).length = n := by
  induction n generalizing v with
  | zero => rfl
  | succ n ih => simp [leBytes, ih]

/-- A number written in `n` bytes reads back modulo 256 to the `n`. -/
theorem leNat_leBytes (n v : Nat) : leNat (leBytes n v) = v % 256 ^ n := by
  induction n generalizing v with
  | zero => simp [leBytes, leNat, Nat.mod_one]
  | succ n ih =>
    have e : 256 ^ (n + 1) = 256 * 256 ^ n := by ring
    rw [leBytes, leNat, ih, BitVec.toNat_ofNat, e, Nat.mod_mul]

theorem leNat_append (xs ys : List Byte) : leNat (xs ++ ys) = leNat xs + 256 ^ xs.length * leNat ys := by
  induction xs with
  | nil => simp [leNat]
  | cons x xs ih =>
    simp only [List.cons_append, leNat, ih, List.length_cons, Nat.pow_succ]
    ring

/-- A run of bytes spells a number below 256 to its length. -/
theorem leNat_lt (xs : List Byte) : leNat xs < 256 ^ xs.length := by
  induction xs with
  | nil => simp [leNat]
  | cons x xs ih =>
    have := x.isLt
    simp only [leNat, List.length_cons, Nat.pow_succ]
    omega

/-- A field of `n` bytes is below 256 to the `n`. -/
theorem fieldAt_lt (bs : List Byte) (off n : Nat) : fieldAt bs off n < 256 ^ n := by
  refine (leNat_lt _).trans_le (Nat.pow_le_pow_right (by omega) ?_)
  simp

/-- A field that lies behind a prefix is read in what follows it. -/
theorem fieldAt_append_right (xs ys : List Byte) (off n : Nat) (h : xs.length ≤ off) :
    fieldAt (xs ++ ys) off n = fieldAt ys (off - xs.length) n := by
  unfold fieldAt
  rw [List.drop_append, List.drop_of_length_le h]
  simp

/-- A field at the front of a run of bytes as long as the field reads that run. -/
theorem fieldAt_append_left (xs ys : List Byte) : fieldAt (xs ++ ys) 0 xs.length = leNat xs := by simp [fieldAt]

theorem byteAt_lt (bs : List Byte) (off : Nat) : byteAt bs off < 256 := (bs.getD off 0).isLt

theorem byteAt_append_right (xs ys : List Byte) (off : Nat) (h : xs.length ≤ off) :
    byteAt (xs ++ ys) off = byteAt ys (off - xs.length) := by
  simp [byteAt, List.getD_eq_getElem?_getD, List.getElem?_append_right h]

theorem byteAt_append_left (xs ys : List Byte) (off : Nat) (h : off < xs.length) :
    byteAt (xs ++ ys) off = byteAt xs off := by
  simp [byteAt, List.getD_eq_getElem?_getD, List.getElem?_append_left h]

@[simp] theorem byteAt_leBytes_one (v : Nat) : byteAt (leBytes 1 v) 0 = v % 256 := by simp [byteAt, leBytes]

@[simp] theorem padTo_length (n : Nat) (bs : List Byte) : (padTo n bs).length = n := by simp [padTo]

@[simp] theorem responseRecord_length (code ring : Nat) (st : Status) (result : List Byte) :
    (responseRecord code ring st result).length = 32 := by simp [responseRecord]

@[simp] theorem eventRecord_length (e : Event) : (eventRecord e).length = 16 := by simp [eventRecord]

@[simp] theorem noEventRecord_length : noEventRecord.length = 16 := by simp [noEventRecord]

@[simp] theorem statusRecord_length (s : State) : (statusRecord s).length = 16 := by
  simp [statusRecord, List.length_flatMap]

@[simp] theorem ringResult_length (x : Ring) : (ringResult x).length = 28 := by simp [ringResult]

@[simp] theorem headerBody_length (kind : Nat) (r : RingId) (reason : Nat) (tag : JournalTag) (e : Epoch) (line : Addr)
    (seq : Seq) (released : Nat) : (headerBody kind r reason tag e line seq released).length = 28 := by simp [headerBody]

/-- Header bytes 0 to 27 of a sealed header are its body, and its check is over them and the image. -/
theorem sealHeader_take (body image : List Byte) (h : body.length = 28) : (sealHeader body image).take 28 = body := by
  simp [sealHeader, h]

end Sys2Proof.Machine
end

