-- ==== Sys2Proof/Laws/State.lean ====
section
/-! SUPPORT. What each update of the state leaves of each field, and what the accessors read after it: true by unfolding,
tagged simp, so that no later proof unfolds a record update. -/

namespace Sys2Proof.Machine

/-! ### Entries of a fixed table -/

theorem vec_get_set_self {α : Type} {n : Nat} (v : Vector α n) (i : Fin n) (a : α) : (v.set i a).get i = a := by
  show (v.set i a)[i.val] = a
  simp

theorem vec_get_set_ne {α : Type} {n : Nat} (v : Vector α n) (i j : Fin n) (a : α) (h : j ≠ i) :
    (v.set i a).get j = v.get j := by
  have h' : (i : Nat) ≠ j := fun e => h (Fin.ext e.symm)
  show (v.set i a)[j.val] = v[j.val]
  simp [h']

theorem vec_set_get {α : Type} {n : Nat} (v : Vector α n) (i : Fin n) : v.set i (v.get i) = v := by
  show v.set i v[i.val] = v
  simp

theorem mapVec_get {α β : Type} {n : Nat} (f : α → β) (v : Vector α n) (i : Fin n) :
    (mapVec f v).get i = f (v.get i) := by
  show (mapVec f v)[i.val] = f v[i.val]
  simp [mapVec]

namespace State

variable (s : State) (r q : RingId) (x : Ring) (c k : CtxId) (y : Option Context) (t u : HostTag) (e : Option TagEntry)
  (o v : OwnTag) (z : OwnTagState) (i j : SlotId) (w : Slot) (b : Bool) (m n : Fin 12) (g : Region) (st : HostStatus)
  (d : List Byte) (a : Access) (p : Owner → Bool) (us : Nat) (ev : EventBody) (dc : Decided)


/-! ### setRing -/

@[simp] theorem setRing_inReset : (s.setRing r x).inReset = s.inReset := rfl
@[simp] theorem setRing_ckptLevel : (s.setRing r x).ckptLevel = s.ckptLevel := rfl
@[simp] theorem setRing_ckptSampled : (s.setRing r x).ckptSampled = s.ckptSampled := rfl
@[simp] theorem setRing_mode : (s.setRing r x).mode = s.mode := rfl
@[simp] theorem setRing_regions : (s.setRing r x).regions = s.regions := rfl
@[simp] theorem setRing_contexts : (s.setRing r x).contexts = s.contexts := rfl
@[simp] theorem setRing_reports : (s.setRing r x).reports = s.reports := rfl
@[simp] theorem setRing_hold : (s.setRing r x).hold = s.hold := rfl
@[simp] theorem setRing_passAsked : (s.setRing r x).passAsked = s.passAsked := rfl
@[simp] theorem setRing_passStopped : (s.setRing r x).passStopped = s.passStopped := rfl
@[simp] theorem setRing_tags : (s.setRing r x).tags = s.tags := rfl
@[simp] theorem setRing_ready : (s.setRing r x).ready = s.ready := rfl
@[simp] theorem setRing_forward : (s.setRing r x).forward = s.forward := rfl
@[simp] theorem setRing_decided : (s.setRing r x).decided = s.decided := rfl
@[simp] theorem setRing_ownTags : (s.setRing r x).ownTags = s.ownTags := rfl
@[simp] theorem setRing_journal : (s.setRing r x).journal = s.journal := rfl
@[simp] theorem setRing_service : (s.setRing r x).service = s.service := rfl
@[simp] theorem setRing_lastClass : (s.setRing r x).lastClass = s.lastClass := rfl
@[simp] theorem setRing_slots : (s.setRing r x).slots = s.slots := rfl
@[simp] theorem setRing_loadOrder : (s.setRing r x).loadOrder = s.loadOrder := rfl
@[simp] theorem setRing_rejected : (s.setRing r x).rejected = s.rejected := rfl
@[simp] theorem setRing_events : (s.setRing r x).events = s.events := rfl
@[simp] theorem setRing_overrun : (s.setRing r x).overrun = s.overrun := rfl
@[simp] theorem setRing_eventNumber : (s.setRing r x).eventNumber = s.eventNumber := rfl
@[simp] theorem setRing_frame : (s.setRing r x).frame = s.frame := rfl
@[simp] theorem setRing_frameWait : (s.setRing r x).frameWait = s.frameWait := rfl
@[simp] theorem setRing_hostOut : (s.setRing r x).hostOut = s.hostOut := rfl
@[simp] theorem setRing_memOut : (s.setRing r x).memOut = s.memOut := rfl
@[simp] theorem setRing_sdo : (s.setRing r x).sdo = s.sdo := rfl
@[simp] theorem setRing_script : (s.setRing r x).script = s.script := rfl
@[simp] theorem setRing_drawn : (s.setRing r x).drawn = s.drawn := rfl
@[simp] theorem setRing_pending : (s.setRing r x).pending = s.pending := rfl
@[simp] theorem setRing_ctx : (s.setRing r x).ctx k = s.ctx k := rfl
@[simp] theorem setRing_tagEntry : (s.setRing r x).tagEntry u = s.tagEntry u := rfl
@[simp] theorem setRing_ownTag : (s.setRing r x).ownTag v = s.ownTag v := rfl
@[simp] theorem setRing_slot : (s.setRing r x).slot j = s.slot j := rfl
@[simp] theorem setRing_region : (s.setRing r x).region n = s.region n := rfl

/-! ### setCtx -/

@[simp] theorem setCtx_inReset : (s.setCtx c y).inReset = s.inReset := rfl
@[simp] theorem setCtx_ckptLevel : (s.setCtx c y).ckptLevel = s.ckptLevel := rfl
@[simp] theorem setCtx_ckptSampled : (s.setCtx c y).ckptSampled = s.ckptSampled := rfl
@[simp] theorem setCtx_mode : (s.setCtx c y).mode = s.mode := rfl
@[simp] theorem setCtx_regions : (s.setCtx c y).regions = s.regions := rfl
@[simp] theorem setCtx_rings : (s.setCtx c y).rings = s.rings := rfl
@[simp] theorem setCtx_reports : (s.setCtx c y).reports = s.reports := rfl
@[simp] theorem setCtx_hold : (s.setCtx c y).hold = s.hold := rfl
@[simp] theorem setCtx_passAsked : (s.setCtx c y).passAsked = s.passAsked := rfl
@[simp] theorem setCtx_passStopped : (s.setCtx c y).passStopped = s.passStopped := rfl
@[simp] theorem setCtx_tags : (s.setCtx c y).tags = s.tags := rfl
@[simp] theorem setCtx_ready : (s.setCtx c y).ready = s.ready := rfl
@[simp] theorem setCtx_forward : (s.setCtx c y).forward = s.forward := rfl
@[simp] theorem setCtx_decided : (s.setCtx c y).decided = s.decided := rfl
@[simp] theorem setCtx_ownTags : (s.setCtx c y).ownTags = s.ownTags := rfl
@[simp] theorem setCtx_journal : (s.setCtx c y).journal = s.journal := rfl
@[simp] theorem setCtx_service : (s.setCtx c y).service = s.service := rfl
@[simp] theorem setCtx_lastClass : (s.setCtx c y).lastClass = s.lastClass := rfl
@[simp] theorem setCtx_slots : (s.setCtx c y).slots = s.slots := rfl
@[simp] theorem setCtx_loadOrder : (s.setCtx c y).loadOrder = s.loadOrder := rfl
@[simp] theorem setCtx_rejected : (s.setCtx c y).rejected = s.rejected := rfl
@[simp] theorem setCtx_events : (s.setCtx c y).events = s.events := rfl
@[simp] theorem setCtx_overrun : (s.setCtx c y).overrun = s.overrun := rfl
@[simp] theorem setCtx_eventNumber : (s.setCtx c y).eventNumber = s.eventNumber := rfl
@[simp] theorem setCtx_frame : (s.setCtx c y).frame = s.frame := rfl
@[simp] theorem setCtx_frameWait : (s.setCtx c y).frameWait = s.frameWait := rfl
@[simp] theorem setCtx_hostOut : (s.setCtx c y).hostOut = s.hostOut := rfl
@[simp] theorem setCtx_memOut : (s.setCtx c y).memOut = s.memOut := rfl
@[simp] theorem setCtx_sdo : (s.setCtx c y).sdo = s.sdo := rfl
@[simp] theorem setCtx_script : (s.setCtx c y).script = s.script := rfl
@[simp] theorem setCtx_drawn : (s.setCtx c y).drawn = s.drawn := rfl
@[simp] theorem setCtx_pending : (s.setCtx c y).pending = s.pending := rfl
@[simp] theorem setCtx_ring : (s.setCtx c y).ring q = s.ring q := rfl
@[simp] theorem setCtx_tagEntry : (s.setCtx c y).tagEntry u = s.tagEntry u := rfl
@[simp] theorem setCtx_ownTag : (s.setCtx c y).ownTag v = s.ownTag v := rfl
@[simp] theorem setCtx_slot : (s.setCtx c y).slot j = s.slot j := rfl
@[simp] theorem setCtx_region : (s.setCtx c y).region n = s.region n := rfl

/-! ### setTag -/

@[simp] theorem setTag_inReset : (s.setTag t e).inReset = s.inReset := rfl
@[simp] theorem setTag_ckptLevel : (s.setTag t e).ckptLevel = s.ckptLevel := rfl
@[simp] theorem setTag_ckptSampled : (s.setTag t e).ckptSampled = s.ckptSampled := rfl
@[simp] theorem setTag_mode : (s.setTag t e).mode = s.mode := rfl
@[simp] theorem setTag_regions : (s.setTag t e).regions = s.regions := rfl
@[simp] theorem setTag_rings : (s.setTag t e).rings = s.rings := rfl
@[simp] theorem setTag_contexts : (s.setTag t e).contexts = s.contexts := rfl
@[simp] theorem setTag_reports : (s.setTag t e).reports = s.reports := rfl
@[simp] theorem setTag_hold : (s.setTag t e).hold = s.hold := rfl
@[simp] theorem setTag_passAsked : (s.setTag t e).passAsked = s.passAsked := rfl
@[simp] theorem setTag_passStopped : (s.setTag t e).passStopped = s.passStopped := rfl
@[simp] theorem setTag_ready : (s.setTag t e).ready = s.ready := rfl
@[simp] theorem setTag_forward : (s.setTag t e).forward = s.forward := rfl
@[simp] theorem setTag_decided : (s.setTag t e).decided = s.decided := rfl
@[simp] theorem setTag_ownTags : (s.setTag t e).ownTags = s.ownTags := rfl
@[simp] theorem setTag_journal : (s.setTag t e).journal = s.journal := rfl
@[simp] theorem setTag_service : (s.setTag t e).service = s.service := rfl
@[simp] theorem setTag_lastClass : (s.setTag t e).lastClass = s.lastClass := rfl
@[simp] theorem setTag_slots : (s.setTag t e).slots = s.slots := rfl
@[simp] theorem setTag_loadOrder : (s.setTag t e).loadOrder = s.loadOrder := rfl
@[simp] theorem setTag_rejected : (s.setTag t e).rejected = s.rejected := rfl
@[simp] theorem setTag_events : (s.setTag t e).events = s.events := rfl
@[simp] theorem setTag_overrun : (s.setTag t e).overrun = s.overrun := rfl
@[simp] theorem setTag_eventNumber : (s.setTag t e).eventNumber = s.eventNumber := rfl
@[simp] theorem setTag_frame : (s.setTag t e).frame = s.frame := rfl
@[simp] theorem setTag_frameWait : (s.setTag t e).frameWait = s.frameWait := rfl
@[simp] theorem setTag_hostOut : (s.setTag t e).hostOut = s.hostOut := rfl
@[simp] theorem setTag_memOut : (s.setTag t e).memOut = s.memOut := rfl
@[simp] theorem setTag_sdo : (s.setTag t e).sdo = s.sdo := rfl
@[simp] theorem setTag_script : (s.setTag t e).script = s.script := rfl
@[simp] theorem setTag_drawn : (s.setTag t e).drawn = s.drawn := rfl
@[simp] theorem setTag_pending : (s.setTag t e).pending = s.pending := rfl
@[simp] theorem setTag_ring : (s.setTag t e).ring q = s.ring q := rfl
@[simp] theorem setTag_ctx : (s.setTag t e).ctx k = s.ctx k := rfl
@[simp] theorem setTag_ownTag : (s.setTag t e).ownTag v = s.ownTag v := rfl
@[simp] theorem setTag_slot : (s.setTag t e).slot j = s.slot j := rfl
@[simp] theorem setTag_region : (s.setTag t e).region n = s.region n := rfl

/-! ### setOwnTag -/

@[simp] theorem setOwnTag_inReset : (s.setOwnTag o z).inReset = s.inReset := rfl
@[simp] theorem setOwnTag_ckptLevel : (s.setOwnTag o z).ckptLevel = s.ckptLevel := rfl
@[simp] theorem setOwnTag_ckptSampled : (s.setOwnTag o z).ckptSampled = s.ckptSampled := rfl
@[simp] theorem setOwnTag_mode : (s.setOwnTag o z).mode = s.mode := rfl
@[simp] theorem setOwnTag_regions : (s.setOwnTag o z).regions = s.regions := rfl
@[simp] theorem setOwnTag_rings : (s.setOwnTag o z).rings = s.rings := rfl
@[simp] theorem setOwnTag_contexts : (s.setOwnTag o z).contexts = s.contexts := rfl
@[simp] theorem setOwnTag_reports : (s.setOwnTag o z).reports = s.reports := rfl
@[simp] theorem setOwnTag_hold : (s.setOwnTag o z).hold = s.hold := rfl
@[simp] theorem setOwnTag_passAsked : (s.setOwnTag o z).passAsked = s.passAsked := rfl
@[simp] theorem setOwnTag_passStopped : (s.setOwnTag o z).passStopped = s.passStopped := rfl
@[simp] theorem setOwnTag_tags : (s.setOwnTag o z).tags = s.tags := rfl
@[simp] theorem setOwnTag_ready : (s.setOwnTag o z).ready = s.ready := rfl
@[simp] theorem setOwnTag_forward : (s.setOwnTag o z).forward = s.forward := rfl
@[simp] theorem setOwnTag_decided : (s.setOwnTag o z).decided = s.decided := rfl
@[simp] theorem setOwnTag_journal : (s.setOwnTag o z).journal = s.journal := rfl
@[simp] theorem setOwnTag_service : (s.setOwnTag o z).service = s.service := rfl
@[simp] theorem setOwnTag_lastClass : (s.setOwnTag o z).lastClass = s.lastClass := rfl
@[simp] theorem setOwnTag_slots : (s.setOwnTag o z).slots = s.slots := rfl
@[simp] theorem setOwnTag_loadOrder : (s.setOwnTag o z).loadOrder = s.loadOrder := rfl
@[simp] theorem setOwnTag_rejected : (s.setOwnTag o z).rejected = s.rejected := rfl
@[simp] theorem setOwnTag_events : (s.setOwnTag o z).events = s.events := rfl
@[simp] theorem setOwnTag_overrun : (s.setOwnTag o z).overrun = s.overrun := rfl
@[simp] theorem setOwnTag_eventNumber : (s.setOwnTag o z).eventNumber = s.eventNumber := rfl
@[simp] theorem setOwnTag_frame : (s.setOwnTag o z).frame = s.frame := rfl
@[simp] theorem setOwnTag_frameWait : (s.setOwnTag o z).frameWait = s.frameWait := rfl
@[simp] theorem setOwnTag_hostOut : (s.setOwnTag o z).hostOut = s.hostOut := rfl
@[simp] theorem setOwnTag_memOut : (s.setOwnTag o z).memOut = s.memOut := rfl
@[simp] theorem setOwnTag_sdo : (s.setOwnTag o z).sdo = s.sdo := rfl
@[simp] theorem setOwnTag_script : (s.setOwnTag o z).script = s.script := rfl
@[simp] theorem setOwnTag_drawn : (s.setOwnTag o z).drawn = s.drawn := rfl
@[simp] theorem setOwnTag_pending : (s.setOwnTag o z).pending = s.pending := rfl
@[simp] theorem setOwnTag_ring : (s.setOwnTag o z).ring q = s.ring q := rfl
@[simp] theorem setOwnTag_ctx : (s.setOwnTag o z).ctx k = s.ctx k := rfl
@[simp] theorem setOwnTag_tagEntry : (s.setOwnTag o z).tagEntry u = s.tagEntry u := rfl
@[simp] theorem setOwnTag_slot : (s.setOwnTag o z).slot j = s.slot j := rfl
@[simp] theorem setOwnTag_region : (s.setOwnTag o z).region n = s.region n := rfl

/-! ### setSlot -/

@[simp] theorem setSlot_inReset : (s.setSlot i w).inReset = s.inReset := rfl
@[simp] theorem setSlot_ckptLevel : (s.setSlot i w).ckptLevel = s.ckptLevel := rfl
@[simp] theorem setSlot_ckptSampled : (s.setSlot i w).ckptSampled = s.ckptSampled := rfl
@[simp] theorem setSlot_mode : (s.setSlot i w).mode = s.mode := rfl
@[simp] theorem setSlot_regions : (s.setSlot i w).regions = s.regions := rfl
@[simp] theorem setSlot_rings : (s.setSlot i w).rings = s.rings := rfl
@[simp] theorem setSlot_contexts : (s.setSlot i w).contexts = s.contexts := rfl
@[simp] theorem setSlot_reports : (s.setSlot i w).reports = s.reports := rfl
@[simp] theorem setSlot_hold : (s.setSlot i w).hold = s.hold := rfl
@[simp] theorem setSlot_passAsked : (s.setSlot i w).passAsked = s.passAsked := rfl
@[simp] theorem setSlot_passStopped : (s.setSlot i w).passStopped = s.passStopped := rfl
@[simp] theorem setSlot_tags : (s.setSlot i w).tags = s.tags := rfl
@[simp] theorem setSlot_ready : (s.setSlot i w).ready = s.ready := rfl
@[simp] theorem setSlot_forward : (s.setSlot i w).forward = s.forward := rfl
@[simp] theorem setSlot_decided : (s.setSlot i w).decided = s.decided := rfl
@[simp] theorem setSlot_ownTags : (s.setSlot i w).ownTags = s.ownTags := rfl
@[simp] theorem setSlot_journal : (s.setSlot i w).journal = s.journal := rfl
@[simp] theorem setSlot_service : (s.setSlot i w).service = s.service := rfl
@[simp] theorem setSlot_lastClass : (s.setSlot i w).lastClass = s.lastClass := rfl
@[simp] theorem setSlot_loadOrder : (s.setSlot i w).loadOrder = s.loadOrder := rfl
@[simp] theorem setSlot_rejected : (s.setSlot i w).rejected = s.rejected := rfl
@[simp] theorem setSlot_events : (s.setSlot i w).events = s.events := rfl
@[simp] theorem setSlot_overrun : (s.setSlot i w).overrun = s.overrun := rfl
@[simp] theorem setSlot_eventNumber : (s.setSlot i w).eventNumber = s.eventNumber := rfl
@[simp] theorem setSlot_frame : (s.setSlot i w).frame = s.frame := rfl
@[simp] theorem setSlot_frameWait : (s.setSlot i w).frameWait = s.frameWait := rfl
@[simp] theorem setSlot_hostOut : (s.setSlot i w).hostOut = s.hostOut := rfl
@[simp] theorem setSlot_memOut : (s.setSlot i w).memOut = s.memOut := rfl
@[simp] theorem setSlot_sdo : (s.setSlot i w).sdo = s.sdo := rfl
@[simp] theorem setSlot_script : (s.setSlot i w).script = s.script := rfl
@[simp] theorem setSlot_drawn : (s.setSlot i w).drawn = s.drawn := rfl
@[simp] theorem setSlot_pending : (s.setSlot i w).pending = s.pending := rfl
@[simp] theorem setSlot_ring : (s.setSlot i w).ring q = s.ring q := rfl
@[simp] theorem setSlot_ctx : (s.setSlot i w).ctx k = s.ctx k := rfl
@[simp] theorem setSlot_tagEntry : (s.setSlot i w).tagEntry u = s.tagEntry u := rfl
@[simp] theorem setSlot_ownTag : (s.setSlot i w).ownTag v = s.ownTag v := rfl
@[simp] theorem setSlot_region : (s.setSlot i w).region n = s.region n := rfl

/-! ### setRejected -/

@[simp] theorem setRejected_inReset : (s.setRejected i b).inReset = s.inReset := rfl
@[simp] theorem setRejected_ckptLevel : (s.setRejected i b).ckptLevel = s.ckptLevel := rfl
@[simp] theorem setRejected_ckptSampled : (s.setRejected i b).ckptSampled = s.ckptSampled := rfl
@[simp] theorem setRejected_mode : (s.setRejected i b).mode = s.mode := rfl
@[simp] theorem setRejected_regions : (s.setRejected i b).regions = s.regions := rfl
@[simp] theorem setRejected_rings : (s.setRejected i b).rings = s.rings := rfl
@[simp] theorem setRejected_contexts : (s.setRejected i b).contexts = s.contexts := rfl
@[simp] theorem setRejected_reports : (s.setRejected i b).reports = s.reports := rfl
@[simp] theorem setRejected_hold : (s.setRejected i b).hold = s.hold := rfl
@[simp] theorem setRejected_passAsked : (s.setRejected i b).passAsked = s.passAsked := rfl
@[simp] theorem setRejected_passStopped : (s.setRejected i b).passStopped = s.passStopped := rfl
@[simp] theorem setRejected_tags : (s.setRejected i b).tags = s.tags := rfl
@[simp] theorem setRejected_ready : (s.setRejected i b).ready = s.ready := rfl
@[simp] theorem setRejected_forward : (s.setRejected i b).forward = s.forward := rfl
@[simp] theorem setRejected_decided : (s.setRejected i b).decided = s.decided := rfl
@[simp] theorem setRejected_ownTags : (s.setRejected i b).ownTags = s.ownTags := rfl
@[simp] theorem setRejected_journal : (s.setRejected i b).journal = s.journal := rfl
@[simp] theorem setRejected_service : (s.setRejected i b).service = s.service := rfl
@[simp] theorem setRejected_lastClass : (s.setRejected i b).lastClass = s.lastClass := rfl
@[simp] theorem setRejected_slots : (s.setRejected i b).slots = s.slots := rfl
@[simp] theorem setRejected_loadOrder : (s.setRejected i b).loadOrder = s.loadOrder := rfl
@[simp] theorem setRejected_events : (s.setRejected i b).events = s.events := rfl
@[simp] theorem setRejected_overrun : (s.setRejected i b).overrun = s.overrun := rfl
@[simp] theorem setRejected_eventNumber : (s.setRejected i b).eventNumber = s.eventNumber := rfl
@[simp] theorem setRejected_frame : (s.setRejected i b).frame = s.frame := rfl
@[simp] theorem setRejected_frameWait : (s.setRejected i b).frameWait = s.frameWait := rfl
@[simp] theorem setRejected_hostOut : (s.setRejected i b).hostOut = s.hostOut := rfl
@[simp] theorem setRejected_memOut : (s.setRejected i b).memOut = s.memOut := rfl
@[simp] theorem setRejected_sdo : (s.setRejected i b).sdo = s.sdo := rfl
@[simp] theorem setRejected_script : (s.setRejected i b).script = s.script := rfl
@[simp] theorem setRejected_drawn : (s.setRejected i b).drawn = s.drawn := rfl
@[simp] theorem setRejected_pending : (s.setRejected i b).pending = s.pending := rfl
@[simp] theorem setRejected_ring : (s.setRejected i b).ring q = s.ring q := rfl
@[simp] theorem setRejected_ctx : (s.setRejected i b).ctx k = s.ctx k := rfl
@[simp] theorem setRejected_tagEntry : (s.setRejected i b).tagEntry u = s.tagEntry u := rfl
@[simp] theorem setRejected_ownTag : (s.setRejected i b).ownTag v = s.ownTag v := rfl
@[simp] theorem setRejected_slot : (s.setRejected i b).slot j = s.slot j := rfl
@[simp] theorem setRejected_region : (s.setRejected i b).region n = s.region n := rfl

/-! ### setRegion -/

@[simp] theorem setRegion_inReset : (s.setRegion m g).inReset = s.inReset := rfl
@[simp] theorem setRegion_ckptLevel : (s.setRegion m g).ckptLevel = s.ckptLevel := rfl
@[simp] theorem setRegion_ckptSampled : (s.setRegion m g).ckptSampled = s.ckptSampled := rfl
@[simp] theorem setRegion_mode : (s.setRegion m g).mode = s.mode := rfl
@[simp] theorem setRegion_rings : (s.setRegion m g).rings = s.rings := rfl
@[simp] theorem setRegion_contexts : (s.setRegion m g).contexts = s.contexts := rfl
@[simp] theorem setRegion_reports : (s.setRegion m g).reports = s.reports := rfl
@[simp] theorem setRegion_hold : (s.setRegion m g).hold = s.hold := rfl
@[simp] theorem setRegion_passAsked : (s.setRegion m g).passAsked = s.passAsked := rfl
@[simp] theorem setRegion_passStopped : (s.setRegion m g).passStopped = s.passStopped := rfl
@[simp] theorem setRegion_tags : (s.setRegion m g).tags = s.tags := rfl
@[simp] theorem setRegion_ready : (s.setRegion m g).ready = s.ready := rfl
@[simp] theorem setRegion_forward : (s.setRegion m g).forward = s.forward := rfl
@[simp] theorem setRegion_decided : (s.setRegion m g).decided = s.decided := rfl
@[simp] theorem setRegion_ownTags : (s.setRegion m g).ownTags = s.ownTags := rfl
@[simp] theorem setRegion_journal : (s.setRegion m g).journal = s.journal := rfl
@[simp] theorem setRegion_service : (s.setRegion m g).service = s.service := rfl
@[simp] theorem setRegion_lastClass : (s.setRegion m g).lastClass = s.lastClass := rfl
@[simp] theorem setRegion_slots : (s.setRegion m g).slots = s.slots := rfl
@[simp] theorem setRegion_loadOrder : (s.setRegion m g).loadOrder = s.loadOrder := rfl
@[simp] theorem setRegion_rejected : (s.setRegion m g).rejected = s.rejected := rfl
@[simp] theorem setRegion_events : (s.setRegion m g).events = s.events := rfl
@[simp] theorem setRegion_overrun : (s.setRegion m g).overrun = s.overrun := rfl
@[simp] theorem setRegion_eventNumber : (s.setRegion m g).eventNumber = s.eventNumber := rfl
@[simp] theorem setRegion_frame : (s.setRegion m g).frame = s.frame := rfl
@[simp] theorem setRegion_frameWait : (s.setRegion m g).frameWait = s.frameWait := rfl
@[simp] theorem setRegion_hostOut : (s.setRegion m g).hostOut = s.hostOut := rfl
@[simp] theorem setRegion_memOut : (s.setRegion m g).memOut = s.memOut := rfl
@[simp] theorem setRegion_sdo : (s.setRegion m g).sdo = s.sdo := rfl
@[simp] theorem setRegion_script : (s.setRegion m g).script = s.script := rfl
@[simp] theorem setRegion_drawn : (s.setRegion m g).drawn = s.drawn := rfl
@[simp] theorem setRegion_pending : (s.setRegion m g).pending = s.pending := rfl
@[simp] theorem setRegion_ring : (s.setRegion m g).ring q = s.ring q := rfl
@[simp] theorem setRegion_ctx : (s.setRegion m g).ctx k = s.ctx k := rfl
@[simp] theorem setRegion_tagEntry : (s.setRegion m g).tagEntry u = s.tagEntry u := rfl
@[simp] theorem setRegion_ownTag : (s.setRegion m g).ownTag v = s.ownTag v := rfl
@[simp] theorem setRegion_slot : (s.setRegion m g).slot j = s.slot j := rfl

/-! ### respond -/

@[simp] theorem respond_inReset : (s.respond t st d).inReset = s.inReset := rfl
@[simp] theorem respond_ckptLevel : (s.respond t st d).ckptLevel = s.ckptLevel := rfl
@[simp] theorem respond_ckptSampled : (s.respond t st d).ckptSampled = s.ckptSampled := rfl
@[simp] theorem respond_mode : (s.respond t st d).mode = s.mode := rfl
@[simp] theorem respond_regions : (s.respond t st d).regions = s.regions := rfl
@[simp] theorem respond_rings : (s.respond t st d).rings = s.rings := rfl
@[simp] theorem respond_contexts : (s.respond t st d).contexts = s.contexts := rfl
@[simp] theorem respond_reports : (s.respond t st d).reports = s.reports := rfl
@[simp] theorem respond_hold : (s.respond t st d).hold = s.hold := rfl
@[simp] theorem respond_passAsked : (s.respond t st d).passAsked = s.passAsked := rfl
@[simp] theorem respond_passStopped : (s.respond t st d).passStopped = s.passStopped := rfl
@[simp] theorem respond_tags : (s.respond t st d).tags = s.tags := rfl
@[simp] theorem respond_forward : (s.respond t st d).forward = s.forward := rfl
@[simp] theorem respond_decided : (s.respond t st d).decided = s.decided := rfl
@[simp] theorem respond_ownTags : (s.respond t st d).ownTags = s.ownTags := rfl
@[simp] theorem respond_journal : (s.respond t st d).journal = s.journal := rfl
@[simp] theorem respond_service : (s.respond t st d).service = s.service := rfl
@[simp] theorem respond_lastClass : (s.respond t st d).lastClass = s.lastClass := rfl
@[simp] theorem respond_slots : (s.respond t st d).slots = s.slots := rfl
@[simp] theorem respond_loadOrder : (s.respond t st d).loadOrder = s.loadOrder := rfl
@[simp] theorem respond_rejected : (s.respond t st d).rejected = s.rejected := rfl
@[simp] theorem respond_events : (s.respond t st d).events = s.events := rfl
@[simp] theorem respond_overrun : (s.respond t st d).overrun = s.overrun := rfl
@[simp] theorem respond_eventNumber : (s.respond t st d).eventNumber = s.eventNumber := rfl
@[simp] theorem respond_frame : (s.respond t st d).frame = s.frame := rfl
@[simp] theorem respond_frameWait : (s.respond t st d).frameWait = s.frameWait := rfl
@[simp] theorem respond_hostOut : (s.respond t st d).hostOut = s.hostOut := rfl
@[simp] theorem respond_memOut : (s.respond t st d).memOut = s.memOut := rfl
@[simp] theorem respond_sdo : (s.respond t st d).sdo = s.sdo := rfl
@[simp] theorem respond_script : (s.respond t st d).script = s.script := rfl
@[simp] theorem respond_drawn : (s.respond t st d).drawn = s.drawn := rfl
@[simp] theorem respond_pending : (s.respond t st d).pending = s.pending := rfl
@[simp] theorem respond_ring : (s.respond t st d).ring q = s.ring q := rfl
@[simp] theorem respond_ctx : (s.respond t st d).ctx k = s.ctx k := rfl
@[simp] theorem respond_tagEntry : (s.respond t st d).tagEntry u = s.tagEntry u := rfl
@[simp] theorem respond_ownTag : (s.respond t st d).ownTag v = s.ownTag v := rfl
@[simp] theorem respond_slot : (s.respond t st d).slot j = s.slot j := rfl
@[simp] theorem respond_region : (s.respond t st d).region n = s.region n := rfl

/-! ### askPass -/

@[simp] theorem askPass_inReset : (s.askPass).inReset = s.inReset := rfl
@[simp] theorem askPass_ckptLevel : (s.askPass).ckptLevel = s.ckptLevel := rfl
@[simp] theorem askPass_ckptSampled : (s.askPass).ckptSampled = s.ckptSampled := rfl
@[simp] theorem askPass_mode : (s.askPass).mode = s.mode := rfl
@[simp] theorem askPass_regions : (s.askPass).regions = s.regions := rfl
@[simp] theorem askPass_rings : (s.askPass).rings = s.rings := rfl
@[simp] theorem askPass_contexts : (s.askPass).contexts = s.contexts := rfl
@[simp] theorem askPass_reports : (s.askPass).reports = s.reports := rfl
@[simp] theorem askPass_hold : (s.askPass).hold = s.hold := rfl
@[simp] theorem askPass_passStopped : (s.askPass).passStopped = s.passStopped := rfl
@[simp] theorem askPass_tags : (s.askPass).tags = s.tags := rfl
@[simp] theorem askPass_ready : (s.askPass).ready = s.ready := rfl
@[simp] theorem askPass_forward : (s.askPass).forward = s.forward := rfl
@[simp] theorem askPass_decided : (s.askPass).decided = s.decided := rfl
@[simp] theorem askPass_ownTags : (s.askPass).ownTags = s.ownTags := rfl
@[simp] theorem askPass_journal : (s.askPass).journal = s.journal := rfl
@[simp] theorem askPass_service : (s.askPass).service = s.service := rfl
@[simp] theorem askPass_lastClass : (s.askPass).lastClass = s.lastClass := rfl
@[simp] theorem askPass_slots : (s.askPass).slots = s.slots := rfl
@[simp] theorem askPass_loadOrder : (s.askPass).loadOrder = s.loadOrder := rfl
@[simp] theorem askPass_rejected : (s.askPass).rejected = s.rejected := rfl
@[simp] theorem askPass_events : (s.askPass).events = s.events := rfl
@[simp] theorem askPass_overrun : (s.askPass).overrun = s.overrun := rfl
@[simp] theorem askPass_eventNumber : (s.askPass).eventNumber = s.eventNumber := rfl
@[simp] theorem askPass_frame : (s.askPass).frame = s.frame := rfl
@[simp] theorem askPass_frameWait : (s.askPass).frameWait = s.frameWait := rfl
@[simp] theorem askPass_hostOut : (s.askPass).hostOut = s.hostOut := rfl
@[simp] theorem askPass_memOut : (s.askPass).memOut = s.memOut := rfl
@[simp] theorem askPass_sdo : (s.askPass).sdo = s.sdo := rfl
@[simp] theorem askPass_script : (s.askPass).script = s.script := rfl
@[simp] theorem askPass_drawn : (s.askPass).drawn = s.drawn := rfl
@[simp] theorem askPass_pending : (s.askPass).pending = s.pending := rfl
@[simp] theorem askPass_ring : (s.askPass).ring q = s.ring q := rfl
@[simp] theorem askPass_ctx : (s.askPass).ctx k = s.ctx k := rfl
@[simp] theorem askPass_tagEntry : (s.askPass).tagEntry u = s.tagEntry u := rfl
@[simp] theorem askPass_ownTag : (s.askPass).ownTag v = s.ownTag v := rfl
@[simp] theorem askPass_slot : (s.askPass).slot j = s.slot j := rfl
@[simp] theorem askPass_region : (s.askPass).region n = s.region n := rfl

/-! ### requestJournal -/

@[simp] theorem requestJournal_inReset : (s.requestJournal a).inReset = s.inReset := rfl
@[simp] theorem requestJournal_ckptLevel : (s.requestJournal a).ckptLevel = s.ckptLevel := rfl
@[simp] theorem requestJournal_ckptSampled : (s.requestJournal a).ckptSampled = s.ckptSampled := rfl
@[simp] theorem requestJournal_mode : (s.requestJournal a).mode = s.mode := rfl
@[simp] theorem requestJournal_regions : (s.requestJournal a).regions = s.regions := rfl
@[simp] theorem requestJournal_rings : (s.requestJournal a).rings = s.rings := rfl
@[simp] theorem requestJournal_contexts : (s.requestJournal a).contexts = s.contexts := rfl
@[simp] theorem requestJournal_reports : (s.requestJournal a).reports = s.reports := rfl
@[simp] theorem requestJournal_hold : (s.requestJournal a).hold = s.hold := rfl
@[simp] theorem requestJournal_passAsked : (s.requestJournal a).passAsked = s.passAsked := rfl
@[simp] theorem requestJournal_passStopped : (s.requestJournal a).passStopped = s.passStopped := rfl
@[simp] theorem requestJournal_tags : (s.requestJournal a).tags = s.tags := rfl
@[simp] theorem requestJournal_ready : (s.requestJournal a).ready = s.ready := rfl
@[simp] theorem requestJournal_forward : (s.requestJournal a).forward = s.forward := rfl
@[simp] theorem requestJournal_decided : (s.requestJournal a).decided = s.decided := rfl
@[simp] theorem requestJournal_ownTags : (s.requestJournal a).ownTags = s.ownTags := rfl
@[simp] theorem requestJournal_service : (s.requestJournal a).service = s.service := rfl
@[simp] theorem requestJournal_lastClass : (s.requestJournal a).lastClass = s.lastClass := rfl
@[simp] theorem requestJournal_slots : (s.requestJournal a).slots = s.slots := rfl
@[simp] theorem requestJournal_loadOrder : (s.requestJournal a).loadOrder = s.loadOrder := rfl
@[simp] theorem requestJournal_rejected : (s.requestJournal a).rejected = s.rejected := rfl
@[simp] theorem requestJournal_events : (s.requestJournal a).events = s.events := rfl
@[simp] theorem requestJournal_overrun : (s.requestJournal a).overrun = s.overrun := rfl
@[simp] theorem requestJournal_eventNumber : (s.requestJournal a).eventNumber = s.eventNumber := rfl
@[simp] theorem requestJournal_frame : (s.requestJournal a).frame = s.frame := rfl
@[simp] theorem requestJournal_frameWait : (s.requestJournal a).frameWait = s.frameWait := rfl
@[simp] theorem requestJournal_hostOut : (s.requestJournal a).hostOut = s.hostOut := rfl
@[simp] theorem requestJournal_memOut : (s.requestJournal a).memOut = s.memOut := rfl
@[simp] theorem requestJournal_sdo : (s.requestJournal a).sdo = s.sdo := rfl
@[simp] theorem requestJournal_script : (s.requestJournal a).script = s.script := rfl
@[simp] theorem requestJournal_drawn : (s.requestJournal a).drawn = s.drawn := rfl
@[simp] theorem requestJournal_pending : (s.requestJournal a).pending = s.pending := rfl
@[simp] theorem requestJournal_ring : (s.requestJournal a).ring q = s.ring q := rfl
@[simp] theorem requestJournal_ctx : (s.requestJournal a).ctx k = s.ctx k := rfl
@[simp] theorem requestJournal_tagEntry : (s.requestJournal a).tagEntry u = s.tagEntry u := rfl
@[simp] theorem requestJournal_ownTag : (s.requestJournal a).ownTag v = s.ownTag v := rfl
@[simp] theorem requestJournal_slot : (s.requestJournal a).slot j = s.slot j := rfl
@[simp] theorem requestJournal_region : (s.requestJournal a).region n = s.region n := rfl

/-! ### requestService -/

@[simp] theorem requestService_inReset : (s.requestService a).inReset = s.inReset := rfl
@[simp] theorem requestService_ckptLevel : (s.requestService a).ckptLevel = s.ckptLevel := rfl
@[simp] theorem requestService_ckptSampled : (s.requestService a).ckptSampled = s.ckptSampled := rfl
@[simp] theorem requestService_mode : (s.requestService a).mode = s.mode := rfl
@[simp] theorem requestService_regions : (s.requestService a).regions = s.regions := rfl
@[simp] theorem requestService_rings : (s.requestService a).rings = s.rings := rfl
@[simp] theorem requestService_contexts : (s.requestService a).contexts = s.contexts := rfl
@[simp] theorem requestService_reports : (s.requestService a).reports = s.reports := rfl
@[simp] theorem requestService_hold : (s.requestService a).hold = s.hold := rfl
@[simp] theorem requestService_passAsked : (s.requestService a).passAsked = s.passAsked := rfl
@[simp] theorem requestService_passStopped : (s.requestService a).passStopped = s.passStopped := rfl
@[simp] theorem requestService_tags : (s.requestService a).tags = s.tags := rfl
@[simp] theorem requestService_ready : (s.requestService a).ready = s.ready := rfl
@[simp] theorem requestService_forward : (s.requestService a).forward = s.forward := rfl
@[simp] theorem requestService_decided : (s.requestService a).decided = s.decided := rfl
@[simp] theorem requestService_ownTags : (s.requestService a).ownTags = s.ownTags := rfl
@[simp] theorem requestService_journal : (s.requestService a).journal = s.journal := rfl
@[simp] theorem requestService_lastClass : (s.requestService a).lastClass = s.lastClass := rfl
@[simp] theorem requestService_slots : (s.requestService a).slots = s.slots := rfl
@[simp] theorem requestService_loadOrder : (s.requestService a).loadOrder = s.loadOrder := rfl
@[simp] theorem requestService_rejected : (s.requestService a).rejected = s.rejected := rfl
@[simp] theorem requestService_events : (s.requestService a).events = s.events := rfl
@[simp] theorem requestService_overrun : (s.requestService a).overrun = s.overrun := rfl
@[simp] theorem requestService_eventNumber : (s.requestService a).eventNumber = s.eventNumber := rfl
@[simp] theorem requestService_frame : (s.requestService a).frame = s.frame := rfl
@[simp] theorem requestService_frameWait : (s.requestService a).frameWait = s.frameWait := rfl
@[simp] theorem requestService_hostOut : (s.requestService a).hostOut = s.hostOut := rfl
@[simp] theorem requestService_memOut : (s.requestService a).memOut = s.memOut := rfl
@[simp] theorem requestService_sdo : (s.requestService a).sdo = s.sdo := rfl
@[simp] theorem requestService_script : (s.requestService a).script = s.script := rfl
@[simp] theorem requestService_drawn : (s.requestService a).drawn = s.drawn := rfl
@[simp] theorem requestService_pending : (s.requestService a).pending = s.pending := rfl
@[simp] theorem requestService_ring : (s.requestService a).ring q = s.ring q := rfl
@[simp] theorem requestService_ctx : (s.requestService a).ctx k = s.ctx k := rfl
@[simp] theorem requestService_tagEntry : (s.requestService a).tagEntry u = s.tagEntry u := rfl
@[simp] theorem requestService_ownTag : (s.requestService a).ownTag v = s.ownTag v := rfl
@[simp] theorem requestService_slot : (s.requestService a).slot j = s.slot j := rfl
@[simp] theorem requestService_region : (s.requestService a).region n = s.region n := rfl

/-! ### withdraw -/

@[simp] theorem withdraw_inReset : (s.withdraw p).inReset = s.inReset := rfl
@[simp] theorem withdraw_ckptLevel : (s.withdraw p).ckptLevel = s.ckptLevel := rfl
@[simp] theorem withdraw_ckptSampled : (s.withdraw p).ckptSampled = s.ckptSampled := rfl
@[simp] theorem withdraw_mode : (s.withdraw p).mode = s.mode := rfl
@[simp] theorem withdraw_regions : (s.withdraw p).regions = s.regions := rfl
@[simp] theorem withdraw_rings : (s.withdraw p).rings = s.rings := rfl
@[simp] theorem withdraw_contexts : (s.withdraw p).contexts = s.contexts := rfl
@[simp] theorem withdraw_reports : (s.withdraw p).reports = s.reports := rfl
@[simp] theorem withdraw_hold : (s.withdraw p).hold = s.hold := rfl
@[simp] theorem withdraw_passAsked : (s.withdraw p).passAsked = s.passAsked := rfl
@[simp] theorem withdraw_passStopped : (s.withdraw p).passStopped = s.passStopped := rfl
@[simp] theorem withdraw_tags : (s.withdraw p).tags = s.tags := rfl
@[simp] theorem withdraw_ready : (s.withdraw p).ready = s.ready := rfl
@[simp] theorem withdraw_forward : (s.withdraw p).forward = s.forward := rfl
@[simp] theorem withdraw_decided : (s.withdraw p).decided = s.decided := rfl
@[simp] theorem withdraw_ownTags : (s.withdraw p).ownTags = s.ownTags := rfl
@[simp] theorem withdraw_lastClass : (s.withdraw p).lastClass = s.lastClass := rfl
@[simp] theorem withdraw_slots : (s.withdraw p).slots = s.slots := rfl
@[simp] theorem withdraw_loadOrder : (s.withdraw p).loadOrder = s.loadOrder := rfl
@[simp] theorem withdraw_rejected : (s.withdraw p).rejected = s.rejected := rfl
@[simp] theorem withdraw_events : (s.withdraw p).events = s.events := rfl
@[simp] theorem withdraw_overrun : (s.withdraw p).overrun = s.overrun := rfl
@[simp] theorem withdraw_eventNumber : (s.withdraw p).eventNumber = s.eventNumber := rfl
@[simp] theorem withdraw_frame : (s.withdraw p).frame = s.frame := rfl
@[simp] theorem withdraw_frameWait : (s.withdraw p).frameWait = s.frameWait := rfl
@[simp] theorem withdraw_hostOut : (s.withdraw p).hostOut = s.hostOut := rfl
@[simp] theorem withdraw_memOut : (s.withdraw p).memOut = s.memOut := rfl
@[simp] theorem withdraw_sdo : (s.withdraw p).sdo = s.sdo := rfl
@[simp] theorem withdraw_script : (s.withdraw p).script = s.script := rfl
@[simp] theorem withdraw_drawn : (s.withdraw p).drawn = s.drawn := rfl
@[simp] theorem withdraw_pending : (s.withdraw p).pending = s.pending := rfl
@[simp] theorem withdraw_ring : (s.withdraw p).ring q = s.ring q := rfl
@[simp] theorem withdraw_ctx : (s.withdraw p).ctx k = s.ctx k := rfl
@[simp] theorem withdraw_tagEntry : (s.withdraw p).tagEntry u = s.tagEntry u := rfl
@[simp] theorem withdraw_ownTag : (s.withdraw p).ownTag v = s.ownTag v := rfl
@[simp] theorem withdraw_slot : (s.withdraw p).slot j = s.slot j := rfl
@[simp] theorem withdraw_region : (s.withdraw p).region n = s.region n := rfl

/-! ### orphan -/

@[simp] theorem orphan_inReset : (s.orphan p).inReset = s.inReset := rfl
@[simp] theorem orphan_ckptLevel : (s.orphan p).ckptLevel = s.ckptLevel := rfl
@[simp] theorem orphan_ckptSampled : (s.orphan p).ckptSampled = s.ckptSampled := rfl
@[simp] theorem orphan_mode : (s.orphan p).mode = s.mode := rfl
@[simp] theorem orphan_regions : (s.orphan p).regions = s.regions := rfl
@[simp] theorem orphan_rings : (s.orphan p).rings = s.rings := rfl
@[simp] theorem orphan_contexts : (s.orphan p).contexts = s.contexts := rfl
@[simp] theorem orphan_reports : (s.orphan p).reports = s.reports := rfl
@[simp] theorem orphan_hold : (s.orphan p).hold = s.hold := rfl
@[simp] theorem orphan_passAsked : (s.orphan p).passAsked = s.passAsked := rfl
@[simp] theorem orphan_passStopped : (s.orphan p).passStopped = s.passStopped := rfl
@[simp] theorem orphan_tags : (s.orphan p).tags = s.tags := rfl
@[simp] theorem orphan_ready : (s.orphan p).ready = s.ready := rfl
@[simp] theorem orphan_forward : (s.orphan p).forward = s.forward := rfl
@[simp] theorem orphan_decided : (s.orphan p).decided = s.decided := rfl
@[simp] theorem orphan_journal : (s.orphan p).journal = s.journal := rfl
@[simp] theorem orphan_service : (s.orphan p).service = s.service := rfl
@[simp] theorem orphan_lastClass : (s.orphan p).lastClass = s.lastClass := rfl
@[simp] theorem orphan_slots : (s.orphan p).slots = s.slots := rfl
@[simp] theorem orphan_loadOrder : (s.orphan p).loadOrder = s.loadOrder := rfl
@[simp] theorem orphan_rejected : (s.orphan p).rejected = s.rejected := rfl
@[simp] theorem orphan_events : (s.orphan p).events = s.events := rfl
@[simp] theorem orphan_overrun : (s.orphan p).overrun = s.overrun := rfl
@[simp] theorem orphan_eventNumber : (s.orphan p).eventNumber = s.eventNumber := rfl
@[simp] theorem orphan_frame : (s.orphan p).frame = s.frame := rfl
@[simp] theorem orphan_frameWait : (s.orphan p).frameWait = s.frameWait := rfl
@[simp] theorem orphan_hostOut : (s.orphan p).hostOut = s.hostOut := rfl
@[simp] theorem orphan_memOut : (s.orphan p).memOut = s.memOut := rfl
@[simp] theorem orphan_sdo : (s.orphan p).sdo = s.sdo := rfl
@[simp] theorem orphan_script : (s.orphan p).script = s.script := rfl
@[simp] theorem orphan_drawn : (s.orphan p).drawn = s.drawn := rfl
@[simp] theorem orphan_pending : (s.orphan p).pending = s.pending := rfl
@[simp] theorem orphan_ring : (s.orphan p).ring q = s.ring q := rfl
@[simp] theorem orphan_ctx : (s.orphan p).ctx k = s.ctx k := rfl
@[simp] theorem orphan_tagEntry : (s.orphan p).tagEntry u = s.tagEntry u := rfl
@[simp] theorem orphan_slot : (s.orphan p).slot j = s.slot j := rfl
@[simp] theorem orphan_region : (s.orphan p).region n = s.region n := rfl

/-! ### passTime -/

@[simp] theorem passTime_inReset : (s.passTime us).inReset = s.inReset := rfl
@[simp] theorem passTime_ckptLevel : (s.passTime us).ckptLevel = s.ckptLevel := rfl
@[simp] theorem passTime_mode : (s.passTime us).mode = s.mode := rfl
@[simp] theorem passTime_regions : (s.passTime us).regions = s.regions := rfl
@[simp] theorem passTime_contexts : (s.passTime us).contexts = s.contexts := rfl
@[simp] theorem passTime_reports : (s.passTime us).reports = s.reports := rfl
@[simp] theorem passTime_hold : (s.passTime us).hold = s.hold := rfl
@[simp] theorem passTime_passAsked : (s.passTime us).passAsked = s.passAsked := rfl
@[simp] theorem passTime_passStopped : (s.passTime us).passStopped = s.passStopped := rfl
@[simp] theorem passTime_tags : (s.passTime us).tags = s.tags := rfl
@[simp] theorem passTime_ready : (s.passTime us).ready = s.ready := rfl
@[simp] theorem passTime_forward : (s.passTime us).forward = s.forward := rfl
@[simp] theorem passTime_decided : (s.passTime us).decided = s.decided := rfl
@[simp] theorem passTime_journal : (s.passTime us).journal = s.journal := rfl
@[simp] theorem passTime_service : (s.passTime us).service = s.service := rfl
@[simp] theorem passTime_lastClass : (s.passTime us).lastClass = s.lastClass := rfl
@[simp] theorem passTime_slots : (s.passTime us).slots = s.slots := rfl
@[simp] theorem passTime_loadOrder : (s.passTime us).loadOrder = s.loadOrder := rfl
@[simp] theorem passTime_rejected : (s.passTime us).rejected = s.rejected := rfl
@[simp] theorem passTime_events : (s.passTime us).events = s.events := rfl
@[simp] theorem passTime_overrun : (s.passTime us).overrun = s.overrun := rfl
@[simp] theorem passTime_eventNumber : (s.passTime us).eventNumber = s.eventNumber := rfl
@[simp] theorem passTime_frame : (s.passTime us).frame = s.frame := rfl
@[simp] theorem passTime_frameWait : (s.passTime us).frameWait = s.frameWait := rfl
@[simp] theorem passTime_hostOut : (s.passTime us).hostOut = s.hostOut := rfl
@[simp] theorem passTime_memOut : (s.passTime us).memOut = s.memOut := rfl
@[simp] theorem passTime_sdo : (s.passTime us).sdo = s.sdo := rfl
@[simp] theorem passTime_script : (s.passTime us).script = s.script := rfl
@[simp] theorem passTime_drawn : (s.passTime us).drawn = s.drawn := rfl
@[simp] theorem passTime_pending : (s.passTime us).pending = s.pending := rfl
@[simp] theorem passTime_ctx : (s.passTime us).ctx k = s.ctx k := rfl
@[simp] theorem passTime_tagEntry : (s.passTime us).tagEntry u = s.tagEntry u := rfl
@[simp] theorem passTime_slot : (s.passTime us).slot j = s.slot j := rfl
@[simp] theorem passTime_region : (s.passTime us).region n = s.region n := rfl

/-! ### raise -/

@[simp] theorem raise_inReset : (s.raise ev).inReset = s.inReset := by unfold State.raise; split <;> rfl
@[simp] theorem raise_ckptLevel : (s.raise ev).ckptLevel = s.ckptLevel := by unfold State.raise; split <;> rfl
@[simp] theorem raise_ckptSampled : (s.raise ev).ckptSampled = s.ckptSampled := by unfold State.raise; split <;> rfl
@[simp] theorem raise_mode : (s.raise ev).mode = s.mode := by unfold State.raise; split <;> rfl
@[simp] theorem raise_regions : (s.raise ev).regions = s.regions := by unfold State.raise; split <;> rfl
@[simp] theorem raise_rings : (s.raise ev).rings = s.rings := by unfold State.raise; split <;> rfl
@[simp] theorem raise_contexts : (s.raise ev).contexts = s.contexts := by unfold State.raise; split <;> rfl
@[simp] theorem raise_reports : (s.raise ev).reports = s.reports := by unfold State.raise; split <;> rfl
@[simp] theorem raise_hold : (s.raise ev).hold = s.hold := by unfold State.raise; split <;> rfl
@[simp] theorem raise_passAsked : (s.raise ev).passAsked = s.passAsked := by unfold State.raise; split <;> rfl
@[simp] theorem raise_passStopped : (s.raise ev).passStopped = s.passStopped := by unfold State.raise; split <;> rfl
@[simp] theorem raise_tags : (s.raise ev).tags = s.tags := by unfold State.raise; split <;> rfl
@[simp] theorem raise_ready : (s.raise ev).ready = s.ready := by unfold State.raise; split <;> rfl
@[simp] theorem raise_forward : (s.raise ev).forward = s.forward := by unfold State.raise; split <;> rfl
@[simp] theorem raise_decided : (s.raise ev).decided = s.decided := by unfold State.raise; split <;> rfl
@[simp] theorem raise_ownTags : (s.raise ev).ownTags = s.ownTags := by unfold State.raise; split <;> rfl
@[simp] theorem raise_journal : (s.raise ev).journal = s.journal := by unfold State.raise; split <;> rfl
@[simp] theorem raise_service : (s.raise ev).service = s.service := by unfold State.raise; split <;> rfl
@[simp] theorem raise_lastClass : (s.raise ev).lastClass = s.lastClass := by unfold State.raise; split <;> rfl
@[simp] theorem raise_slots : (s.raise ev).slots = s.slots := by unfold State.raise; split <;> rfl
@[simp] theorem raise_loadOrder : (s.raise ev).loadOrder = s.loadOrder := by unfold State.raise; split <;> rfl
@[simp] theorem raise_rejected : (s.raise ev).rejected = s.rejected := by unfold State.raise; split <;> rfl
@[simp] theorem raise_frame : (s.raise ev).frame = s.frame := by unfold State.raise; split <;> rfl
@[simp] theorem raise_frameWait : (s.raise ev).frameWait = s.frameWait := by unfold State.raise; split <;> rfl
@[simp] theorem raise_hostOut : (s.raise ev).hostOut = s.hostOut := by unfold State.raise; split <;> rfl
@[simp] theorem raise_memOut : (s.raise ev).memOut = s.memOut := by unfold State.raise; split <;> rfl
@[simp] theorem raise_sdo : (s.raise ev).sdo = s.sdo := by unfold State.raise; split <;> rfl
@[simp] theorem raise_script : (s.raise ev).script = s.script := by unfold State.raise; split <;> rfl
@[simp] theorem raise_drawn : (s.raise ev).drawn = s.drawn := by unfold State.raise; split <;> rfl
@[simp] theorem raise_pending : (s.raise ev).pending = s.pending := by unfold State.raise; split <;> rfl
@[simp] theorem raise_ring : (s.raise ev).ring q = s.ring q := by unfold State.raise; split <;> rfl
@[simp] theorem raise_ctx : (s.raise ev).ctx k = s.ctx k := by unfold State.raise; split <;> rfl
@[simp] theorem raise_tagEntry : (s.raise ev).tagEntry u = s.tagEntry u := by unfold State.raise; split <;> rfl
@[simp] theorem raise_ownTag : (s.raise ev).ownTag v = s.ownTag v := by unfold State.raise; split <;> rfl
@[simp] theorem raise_slot : (s.raise ev).slot j = s.slot j := by unfold State.raise; split <;> rfl
@[simp] theorem raise_region : (s.raise ev).region n = s.region n := by unfold State.raise; split <;> rfl

/-! ### decide -/

@[simp] theorem decide_inReset : (s.decide dc).inReset = s.inReset := by unfold State.decide; split <;> rfl
@[simp] theorem decide_ckptLevel : (s.decide dc).ckptLevel = s.ckptLevel := by unfold State.decide; split <;> rfl
@[simp] theorem decide_ckptSampled : (s.decide dc).ckptSampled = s.ckptSampled := by unfold State.decide; split <;> rfl
@[simp] theorem decide_mode : (s.decide dc).mode = s.mode := by unfold State.decide; split <;> rfl
@[simp] theorem decide_regions : (s.decide dc).regions = s.regions := by unfold State.decide; split <;> rfl
@[simp] theorem decide_rings : (s.decide dc).rings = s.rings := by unfold State.decide; split <;> rfl
@[simp] theorem decide_contexts : (s.decide dc).contexts = s.contexts := by unfold State.decide; split <;> rfl
@[simp] theorem decide_reports : (s.decide dc).reports = s.reports := by unfold State.decide; split <;> rfl
@[simp] theorem decide_hold : (s.decide dc).hold = s.hold := by unfold State.decide; split <;> rfl
@[simp] theorem decide_passAsked : (s.decide dc).passAsked = s.passAsked := by unfold State.decide; split <;> rfl
@[simp] theorem decide_passStopped : (s.decide dc).passStopped = s.passStopped := by unfold State.decide; split <;> rfl
@[simp] theorem decide_tags : (s.decide dc).tags = s.tags := by unfold State.decide; split <;> rfl
@[simp] theorem decide_ready : (s.decide dc).ready = s.ready := by unfold State.decide; split <;> rfl
@[simp] theorem decide_ownTags : (s.decide dc).ownTags = s.ownTags := by unfold State.decide; split <;> rfl
@[simp] theorem decide_journal : (s.decide dc).journal = s.journal := by unfold State.decide; split <;> rfl
@[simp] theorem decide_service : (s.decide dc).service = s.service := by unfold State.decide; split <;> rfl
@[simp] theorem decide_lastClass : (s.decide dc).lastClass = s.lastClass := by unfold State.decide; split <;> rfl
@[simp] theorem decide_slots : (s.decide dc).slots = s.slots := by unfold State.decide; split <;> rfl
@[simp] theorem decide_loadOrder : (s.decide dc).loadOrder = s.loadOrder := by unfold State.decide; split <;> rfl
@[simp] theorem decide_rejected : (s.decide dc).rejected = s.rejected := by unfold State.decide; split <;> rfl
@[simp] theorem decide_events : (s.decide dc).events = s.events := by unfold State.decide; split <;> rfl
@[simp] theorem decide_overrun : (s.decide dc).overrun = s.overrun := by unfold State.decide; split <;> rfl
@[simp] theorem decide_eventNumber : (s.decide dc).eventNumber = s.eventNumber := by unfold State.decide; split <;> rfl
@[simp] theorem decide_frame : (s.decide dc).frame = s.frame := by unfold State.decide; split <;> rfl
@[simp] theorem decide_frameWait : (s.decide dc).frameWait = s.frameWait := by unfold State.decide; split <;> rfl
@[simp] theorem decide_hostOut : (s.decide dc).hostOut = s.hostOut := by unfold State.decide; split <;> rfl
@[simp] theorem decide_memOut : (s.decide dc).memOut = s.memOut := by unfold State.decide; split <;> rfl
@[simp] theorem decide_sdo : (s.decide dc).sdo = s.sdo := by unfold State.decide; split <;> rfl
@[simp] theorem decide_script : (s.decide dc).script = s.script := by unfold State.decide; split <;> rfl
@[simp] theorem decide_drawn : (s.decide dc).drawn = s.drawn := by unfold State.decide; split <;> rfl
@[simp] theorem decide_pending : (s.decide dc).pending = s.pending := by unfold State.decide; split <;> rfl
@[simp] theorem decide_ring : (s.decide dc).ring q = s.ring q := by unfold State.decide; split <;> rfl
@[simp] theorem decide_ctx : (s.decide dc).ctx k = s.ctx k := by unfold State.decide; split <;> rfl
@[simp] theorem decide_tagEntry : (s.decide dc).tagEntry u = s.tagEntry u := by unfold State.decide; split <;> rfl
@[simp] theorem decide_ownTag : (s.decide dc).ownTag v = s.ownTag v := by unfold State.decide; split <;> rfl
@[simp] theorem decide_slot : (s.decide dc).slot j = s.slot j := by unfold State.decide; split <;> rfl
@[simp] theorem decide_region : (s.decide dc).region n = s.region n := by unfold State.decide; split <;> rfl

/-! ### Reading back what was written -/

@[simp] theorem setRing_ring_self : (s.setRing r x).ring r = x := vec_get_set_self ..

theorem setRing_ring_ne (h : q ≠ r) : (s.setRing r x).ring q = s.ring q := vec_get_set_ne _ _ _ _ h

theorem setRing_ring : (s.setRing r x).ring q = if q = r then x else s.ring q := by
  split
  · next h => rw [h, setRing_ring_self]
  · next h => exact setRing_ring_ne s r q x h

@[simp] theorem setCtx_ctx_self : (s.setCtx c y).ctx c = y := vec_get_set_self ..

theorem setCtx_ctx_ne (h : k ≠ c) : (s.setCtx c y).ctx k = s.ctx k := vec_get_set_ne _ _ _ _ h

theorem setCtx_ctx : (s.setCtx c y).ctx k = if k = c then y else s.ctx k := by
  split
  · next h => rw [h, setCtx_ctx_self]
  · next h => exact setCtx_ctx_ne s c k y h

@[simp] theorem setTag_tagEntry_self : (s.setTag t e).tagEntry t = e := vec_get_set_self ..

theorem setTag_tagEntry_ne (h : u ≠ t) : (s.setTag t e).tagEntry u = s.tagEntry u := vec_get_set_ne _ _ _ _ h

theorem setTag_tagEntry : (s.setTag t e).tagEntry u = if u = t then e else s.tagEntry u := by
  split
  · next h => rw [h, setTag_tagEntry_self]
  · next h => exact setTag_tagEntry_ne s t u e h

@[simp] theorem setOwnTag_ownTag_self : (s.setOwnTag o z).ownTag o = z := vec_get_set_self ..

theorem setOwnTag_ownTag_ne (h : v ≠ o) : (s.setOwnTag o z).ownTag v = s.ownTag v := vec_get_set_ne _ _ _ _ h

theorem setOwnTag_ownTag : (s.setOwnTag o z).ownTag v = if v = o then z else s.ownTag v := by
  split
  · next h => rw [h, setOwnTag_ownTag_self]
  · next h => exact setOwnTag_ownTag_ne s o v z h

@[simp] theorem setSlot_slot_self : (s.setSlot i w).slot i = w := vec_get_set_self ..

theorem setSlot_slot_ne (h : j ≠ i) : (s.setSlot i w).slot j = s.slot j := vec_get_set_ne _ _ _ _ h

@[simp] theorem setRegion_region_self : (s.setRegion m g).region m = g := vec_get_set_self ..

theorem setRegion_region_ne (h : n ≠ m) : (s.setRegion m g).region n = s.region n := vec_get_set_ne _ _ _ _ h

/-! ### Writing twice -/

@[simp] theorem setRing_setRing (x' : Ring) : (s.setRing r x).setRing r x' = s.setRing r x' := by
  simp [setRing]

@[simp] theorem setRing_ring_eta : s.setRing r (s.ring r) = s := by
  simp only [setRing, ring, vec_set_get]

@[simp] theorem modRing_eq (f : Ring → Ring) : s.modRing r f = s.setRing r (f (s.ring r)) := rfl

@[simp] theorem setCtx_setCtx (y' : Option Context) : (s.setCtx c y).setCtx c y' = s.setCtx c y' := by
  simp [setCtx]

@[simp] theorem setOwnTag_setOwnTag (z' : OwnTagState) : (s.setOwnTag o z).setOwnTag o z' = s.setOwnTag o z' := by
  simp [setOwnTag]

/-! ### Tables changed entry by entry -/

/-- The timer of a ring after some ticks (R89). -/
theorem passTime_ring : (s.passTime us).ring q = { s.ring q with timer := (s.ring q).timer.map (· - us) } := by
  simp [passTime, ring, mapVec_get]

/-- The condition of an own tag after some ticks (R163). -/
theorem passTime_ownTag :
    (s.passTime us).ownTag v = match s.ownTag v with
      | .inUse own time => .inUse own (time - us)
      | .free => .free
      | .quarantined => .quarantined := by
  cases h : s.ownTags.get v <;> simp [passTime, ownTag, mapVec_get, h]

end State

end Sys2Proof.Machine
end

