-- ==== Sys2Proof/Laws/Orders.lean ====
section
/-! SUPPORT. The free orders (log 5), and everything that deciding requests for forwarding can do (R159). -/

namespace Sys2Proof.Machine

/-- Taking one entry out and putting it in front permutes a list. -/
theorem getD_cons_eraseIdx_perm {α : Type} (xs : List α) (i : Nat) (d : α) (h : i < xs.length) :
    (xs.getD i d :: xs.eraseIdx i).Perm xs := by
  induction xs generalizing i with
  | nil => simp at h
  | cons x xs ih =>
    cases i with
    | zero => simp
    | succ i =>
      have h' : i < xs.length := by simpa using h
      simp only [List.getD_cons_succ, List.eraseIdx_cons_succ]
      exact (List.Perm.swap ..).trans ((ih i h').cons x)

/-- A free order takes every entry once. -/
theorem State.arrange_perm {α : Type} (n : Nat) (script : List Nat) (drawn : Nat) (xs : List α) :
    (State.arrange n script drawn xs).1.Perm xs := by
  induction n generalizing script drawn xs with
  | zero => exact .refl _
  | succ n ih =>
    match script, xs with
    | [], [] => exact .refl _
    | [], [x] => exact .refl _
    | [], x :: y :: zs =>
      have h : Config.freeChoice drawn % (zs.length + 2) < (x :: y :: zs).length := by
        simpa using Nat.mod_lt _ (Nat.succ_pos _)
      exact ((ih [] _ _).cons _).trans (getD_cons_eraseIdx_perm _ _ x h)
    | c :: script, [] => exact .refl _
    | c :: script, [x] => exact .refl _
    | c :: script, x :: y :: zs =>
      have h : c % (zs.length + 2) < (x :: y :: zs).length := by simpa using Nat.mod_lt _ (Nat.succ_pos _)
      exact ((ih script _ _).cons _).trans (getD_cons_eraseIdx_perm _ _ x h)

/-- Nothing to order takes no choice. -/
theorem State.arrange_nil {α : Type} (n : Nat) (script : List Nat) (drawn : Nat) :
    State.arrange n script drawn ([] : List α) = ([], script, drawn) := by
  cases n with
  | zero => rfl
  | succ n => cases script <;> rfl

/-- A single entry takes no choice. -/
theorem State.arrange_single {α : Type} (n : Nat) (script : List Nat) (drawn : Nat) (x : α) :
    State.arrange n script drawn [x] = ([x], script, drawn) := by
  cases n with
  | zero => rfl
  | succ n => cases script <;> rfl

theorem State.freeOrder_perm {α : Type} (s : State) (xs : List α) : (s.freeOrder xs).Perm xs :=
  State.arrange_perm ..

@[simp] theorem State.freeOrder_nil {α : Type} (s : State) : s.freeOrder ([] : List α) = [] := by
  simp [State.freeOrder, State.arrange_nil]

@[simp] theorem State.freeOrder_single {α : Type} (s : State) (x : α) : s.freeOrder [x] = [x] := by
  simp [State.freeOrder, State.arrange_single]

@[simp] theorem State.afterOrder_nil {α : Type} (s : State) : s.afterOrder ([] : List α) = s := by
  simp [State.afterOrder, State.arrange_nil]

@[simp] theorem State.afterOrder_single {α : Type} (s : State) (x : α) : s.afterOrder [x] = s := by
  simp [State.afterOrder, State.arrange_single]

/-- Taking choices changes the model's script and counter alone. -/
theorem State.afterOrder_eq {α : Type} (s : State) (xs : List α) :
    s.afterOrder xs = { s with script := (s.afterOrder xs).script, drawn := (s.afterOrder xs).drawn } := rfl

@[simp] theorem State.afterOrder_forward {α : Type} (s : State) (xs : List α) :
    (s.afterOrder xs).forward = s.forward := rfl

@[simp] theorem State.afterOrder_decided {α : Type} (s : State) (xs : List α) :
    (s.afterOrder xs).decided = s.decided := rfl

@[simp] theorem State.afterOrder_ring {α : Type} (s : State) (xs : List α) (r : RingId) :
    (s.afterOrder xs).ring r = s.ring r := rfl

@[simp] theorem State.afterOrder_ready {α : Type} (s : State) (xs : List α) : (s.afterOrder xs).ready = s.ready := rfl

/-- Deciding a request changes the forward buffer and the decided requests alone. -/
theorem State.decide_eq (s : State) (d : Decided) :
    s.decide d = { s with forward := (s.decide d).forward, decided := (s.decide d).decided } := by
  unfold State.decide
  split <;> rfl

/-- While decided requests wait only at a full buffer, a request decided goes behind all of them. -/
theorem State.decide_queue (s : State) (d : Decided) (h : s.decided ≠ [] → s.forward.length = 4) :
    (s.decide d).forward ++ (s.decide d).decided.map (·.req) = s.forward ++ s.decided.map (·.req) ++ [d.req] := by
  unfold State.decide
  split
  · next hl =>
    have : s.decided = [] := by
      by_contra hd
      have := h hd
      simp only [Config.forwardPlaces] at hl
      omega
    simp [this]
  · simp

/-- Deciding requests in turn changes the forward buffer and the decided requests alone. -/
theorem State.foldl_decide_eq (s : State) (ds : List Decided) :
    ds.foldl State.decide s =
      { s with forward := (ds.foldl State.decide s).forward, decided := (ds.foldl State.decide s).decided } := by
  induction ds generalizing s with
  | nil => rfl
  | cons d ds ih =>
    have e := ih (s.decide d)
    simp only [List.foldl_cons]
    rw [e, State.decide_eq s d]

/-- Everything a decision of several requests in one act can do: their places in the forward buffer and among the decided
requests, and the choices taken. -/
theorem State.decideAll_eq (s : State) (ds : List Decided) :
    s.decideAll ds =
      { s with
        forward := (s.decideAll ds).forward, decided := (s.decideAll ds).decided,
        script := (s.decideAll ds).script, drawn := (s.decideAll ds).drawn } := by
  unfold State.decideAll
  rw [State.foldl_decide_eq, State.afterOrder_eq s ds]

@[simp] theorem State.decideAll_nil (s : State) : s.decideAll [] = s := by simp [State.decideAll]

@[simp] theorem State.decideAll_single (s : State) (d : Decided) : s.decideAll [d] = s.decide d := by
  simp [State.decideAll]

@[simp] theorem State.decideAll_ring (s : State) (ds : List Decided) (r : RingId) :
    (s.decideAll ds).ring r = s.ring r := by rw [State.decideAll_eq]; rfl

@[simp] theorem State.decideAll_ctx (s : State) (ds : List Decided) (c : CtxId) :
    (s.decideAll ds).ctx c = s.ctx c := by rw [State.decideAll_eq]; rfl

@[simp] theorem State.decideAll_ownTag (s : State) (ds : List Decided) (o : OwnTag) :
    (s.decideAll ds).ownTag o = s.ownTag o := by rw [State.decideAll_eq]; rfl

@[simp] theorem State.decideAll_events (s : State) (ds : List Decided) : (s.decideAll ds).events = s.events := by
  rw [State.decideAll_eq]

@[simp] theorem State.decideAll_hold (s : State) (ds : List Decided) : (s.decideAll ds).hold = s.hold := by
  rw [State.decideAll_eq]

@[simp] theorem State.decideAll_ready (s : State) (ds : List Decided) : (s.decideAll ds).ready = s.ready := by
  rw [State.decideAll_eq]

@[simp] theorem State.decideAll_journal (s : State) (ds : List Decided) : (s.decideAll ds).journal = s.journal := by
  rw [State.decideAll_eq]

@[simp] theorem State.decideAll_service (s : State) (ds : List Decided) : (s.decideAll ds).service = s.service := by
  rw [State.decideAll_eq]

@[simp] theorem State.decideAll_tags (s : State) (ds : List Decided) : (s.decideAll ds).tags = s.tags := by
  rw [State.decideAll_eq]

end Sys2Proof.Machine
end

