-- ==== Sys2Proof/Laws/Rings.lean ====
section
/-! SUPPORT. Every act of a ring controller stays in its ring: OnlyRing for each shared operation, and its composition. -/

namespace Sys2Proof.Safety

open Sys2Proof.Machine

theorem OnlyRing.refl (r : RingId) (s : State) : OnlyRing r s s := by simp [OnlyRing]

theorem OnlyRing.trans {r : RingId} {s t u : State} (h : OnlyRing r s t) (k : OnlyRing r t u) : OnlyRing r s u := by
  obtain ⟨h0, h1, h2, h3, h4, h5, h6, h7, h8, h9, h10, h11, h12, h13, h14, h15, h16⟩ := h
  obtain ⟨k0, k1, k2, k3, k4, k5, k6, k7, k8, k9, k10, k11, k12, k13, k14, k15, k16⟩ := k
  exact ⟨k0.trans h0, k1.trans h1, k2.trans h2, k3.trans h3, k4.trans h4, k5.trans h5, k6.trans h6, k7.trans h7,
    k8.trans h8, k9.trans h9, k10.trans h10, k11.trans h11, k12.trans h12, k13.trans h13,
    k14.trans h14, k15.trans h15, fun q hq => (k16 q hq).trans (h16 q hq)⟩

end Sys2Proof.Safety

namespace Sys2Proof.Laws

open Sys2Proof.Machine Sys2Proof.Safety

variable (r : RingId) (s : State)

/-! ### The updates -/

theorem setRing_only (x : Ring) : OnlyRing r s (s.setRing r x) :=
  ⟨rfl, rfl, rfl, rfl, rfl, rfl, rfl, rfl, rfl, rfl, rfl, rfl, rfl, rfl, rfl, rfl, fun _ h => State.setRing_ring_ne _ _ _ _ h⟩

theorem modRing_only (f : Ring → Ring) : OnlyRing r s (s.modRing r f) := setRing_only ..

theorem setCtx_only (c : CtxId) (y : Option Context) : OnlyRing r s (s.setCtx c y) := by simp [OnlyRing]

theorem askPass_only : OnlyRing r s s.askPass := by simp [OnlyRing]

theorem raise_only (b : EventBody) : OnlyRing r s (s.raise b) := by simp [OnlyRing]

theorem respond_only (t : HostTag) (st : HostStatus) (d : List Byte) : OnlyRing r s (s.respond t st d) := by
  simp [OnlyRing]

theorem decide_only (d : Decided) : OnlyRing r s (s.decide d) := by simp [OnlyRing]

theorem decideAll_only (ds : List Decided) : OnlyRing r s (s.decideAll ds) := by
  rw [State.decideAll_eq]
  exact ⟨rfl, rfl, rfl, rfl, rfl, rfl, rfl, rfl, rfl, rfl, rfl, rfl, rfl, rfl, rfl, rfl, fun _ _ => rfl⟩

theorem requestJournal_only (a : Access) : OnlyRing r s (s.requestJournal a) := by simp [OnlyRing]

theorem requestService_only (a : Access) : OnlyRing r s (s.requestService a) := by simp [OnlyRing]

theorem withdraw_only (p : Owner → Bool) : OnlyRing r s (s.withdraw p) := by simp [OnlyRing]

theorem orphan_only (p : Owner → Bool) : OnlyRing r s (s.orphan p) := by simp [OnlyRing]

/-! ### Contexts -/

theorem forwardCtx_only (c : CtxId) : OnlyRing r s (s.forwardCtx c) := by
  unfold State.forwardCtx
  split
  · exact .refl ..
  · split
    · exact .refl ..
    · exact (setCtx_only ..).trans (decide_only ..)

theorem answerCtx_only (c : CtxId) : OnlyRing r s (s.answerCtx c) := by
  unfold State.answerCtx
  split
  · exact .refl ..
  · exact (setCtx_only ..).trans (respond_only ..)

/-! ### Breaking, failing, scoring -/

theorem becomeBroken_only (cause : Cause) : OnlyRing r s (s.becomeBroken r cause) := by
  unfold State.becomeBroken
  refine .trans ?_ (askPass_only ..)
  refine .trans ?_ (raise_only ..)
  refine .trans ?_ (decideAll_only ..)
  exact ((withdraw_only r s _).trans (setRing_only ..)).trans
    ⟨rfl, rfl, rfl, rfl, rfl, rfl, rfl, rfl, rfl, rfl, rfl, rfl, rfl, rfl, rfl, rfl, fun _ _ => rfl⟩

theorem breakRing_only (cause : Cause) : OnlyRing r s (s.breakRing r cause) := by
  unfold State.breakRing
  split
  · exact becomeBroken_only ..
  · exact .refl ..

theorem failMark_only (cause : Cause) : OnlyRing r s (s.failMark r cause) :=
  (modRing_only ..).trans (breakRing_only ..)

theorem openFail_only (cause : Cause) : OnlyRing r s (s.openFail r cause) :=
  ((((modRing_only ..).trans (withdraw_only ..)).trans (orphan_only ..)).trans (raise_only ..)).trans (askPass_only ..)

theorem scoreFails_only : OnlyRing r s (s.scoreFails r) := by
  unfold State.scoreFails
  split <;> first | exact breakRing_only .. | exact failMark_only .. | exact openFail_only .. | exact .refl ..

theorem report_only (ok : Bool) : OnlyRing r s (s.report r ok) := by
  have h : ∀ (b : Bool) (e : EventBody) (u : State), OnlyRing r s u → OnlyRing r s (if b then u.raise e else u) := by
    intro b e u hu
    split
    · exact hu.trans (raise_only ..)
    · exact hu
  unfold State.report
  simp only
  split
  · exact (h _ _ _ (modRing_only ..)).trans (scoreFails_only ..)
  · exact h _ _ _ (modRing_only ..)

/-! ### Marks and operations -/

theorem requestMark_only (owner : Owner) : OnlyRing r s (s.requestMark r owner) := by
  unfold State.requestMark
  simp only
  split
  · exact .refl ..
  · exact requestJournal_only ..

theorem checkpointMark_only : OnlyRing r s (s.checkpointMark r) := by
  unfold State.checkpointMark
  simp only
  split
  · exact breakRing_only ..
  · exact (setRing_only ..).trans (requestMark_only ..)

theorem rollbackMark_only : OnlyRing r s (s.rollbackMark r) := by
  unfold State.rollbackMark
  simp only
  split
  · exact breakRing_only ..
  · exact (setRing_only ..).trans (requestMark_only ..)

theorem freshMark_only : OnlyRing r s (s.freshMark r) := (modRing_only ..).trans (requestMark_only ..)

theorem restoreEndTest_only : OnlyRing r s (s.restoreEndTest r) := by
  unfold State.restoreEndTest
  simp only
  split
  · exact rollbackMark_only ..
  · exact .refl ..

theorem restoreNext_only : OnlyRing r s (s.restoreNext r) := by
  unfold State.restoreNext
  simp only
  split
  · exact .refl ..
  · split
    · exact restoreEndTest_only ..
    · exact requestService_only ..

theorem restoreStart_only : OnlyRing r s (s.restoreStart r) := (modRing_only ..).trans (restoreNext_only ..)

theorem searchNext_only : OnlyRing r s (s.searchNext r) := by
  unfold State.searchNext
  simp only
  split
  · exact (setRing_only ..).trans (requestService_only ..)
  · exact .refl ..

theorem searchStart_only : OnlyRing r s (s.searchStart r) :=
  ((((modRing_only ..).trans (searchNext_only ..)).trans (searchNext_only ..)).trans (searchNext_only ..)).trans
    (searchNext_only ..)

theorem recoverComplete_only (m : NewestMark) : OnlyRing r s (s.recoverComplete r m) :=
  ((setRing_only ..).trans (raise_only ..)).trans (askPass_only ..)

theorem walkNext_only : OnlyRing r s (s.walkNext r) := by
  unfold State.walkNext
  simp only
  split
  · split
    · exact recoverComplete_only ..
    · exact (setRing_only ..).trans (requestService_only ..)
  · exact .refl ..

theorem searchEnd_only : OnlyRing r s (s.searchEnd r) := by
  unfold State.searchEnd
  split
  · exact openFail_only ..
  · exact (modRing_only ..).trans (walkNext_only ..)

theorem closeComplete_only : OnlyRing r s (s.closeComplete r) := by
  unfold State.closeComplete
  refine .trans ?_ (askPass_only ..)
  refine .trans ?_ (raise_only ..)
  exact ⟨rfl, rfl, rfl, rfl, rfl, rfl, rfl, rfl, rfl, rfl, rfl, rfl, rfl, rfl, rfl, rfl,
    fun q h => State.setRing_ring_ne s r q _ h⟩

theorem drainTest_only : OnlyRing r s (s.drainTest r) := by
  unfold State.drainTest
  split
  · split
    · split
      · exact searchStart_only ..
      · exact freshMark_only ..
      · exact .refl ..
    all_goals first
      | exact checkpointMark_only ..
      | exact restoreStart_only ..
      | exact closeComplete_only ..
      | exact .refl ..
  · exact .refl ..

/-- Answering requests in turn changes what is ready alone. -/
theorem foldl_respond_eq (s : State) (es : List HoldEntry) :
    es.foldl (fun t e => t.respond e.req.tag .retry []) s =
      { s with ready := s.ready ++ es.map fun e => (⟨e.req.tag, .retry, []⟩ : HostResponse) } := by
  induction es generalizing s with
  | nil => simp
  | cons e es ih => rw [List.foldl_cons, ih]; simp [State.respond]

theorem retryHeld_only : OnlyRing r s (s.retryHeld r) := by
  simp only [State.retryHeld, foldl_respond_eq]
  exact ⟨rfl, rfl, rfl, rfl, rfl, rfl, rfl, rfl, rfl, rfl, rfl, rfl, rfl, rfl, rfl, rfl, fun _ _ => rfl⟩

theorem startCheckpoint_only (reason : CkptReason) : OnlyRing r s (s.startCheckpoint r reason) :=
  ((modRing_only ..).trans (askPass_only ..)).trans (drainTest_only ..)

theorem startRollback_only : OnlyRing r s (s.startRollback r) :=
  (((modRing_only ..).trans (retryHeld_only ..)).trans (askPass_only ..)).trans (drainTest_only ..)

theorem startOpen_only (mode : OpenMode) : OnlyRing r s (s.startOpen r mode) :=
  (((modRing_only ..).trans (retryHeld_only ..)).trans (askPass_only ..)).trans (drainTest_only ..)

theorem startClose_only : OnlyRing r s (s.startClose r) :=
  ((modRing_only ..).trans (askPass_only ..)).trans (drainTest_only ..)

theorem resetRing_only : OnlyRing r s (s.resetRing r) := by
  unfold State.resetRing
  refine .trans ?_ (askPass_only ..)
  refine .trans ?_ (raise_only ..)
  refine .trans ?_ (decideAll_only ..)
  exact (((withdraw_only r s _).trans (orphan_only ..)).trans (setRing_only ..)).trans
    ⟨rfl, rfl, rfl, rfl, rfl, rfl, rfl, rfl, rfl, rfl, rfl, rfl, rfl, rfl, rfl, rfl, fun _ _ => rfl⟩

theorem steerRead_only (q : HostRequest) : OnlyRing r s (s.steerRead r q) := by
  unfold State.steerRead
  simp only
  split
  · split
    · split
      · exact decide_only ..
      · split
        · exact decide_only ..
        · exact (setRing_only ..).trans (requestJournal_only ..)
    · exact respond_only ..
  · exact decide_only ..

/-! ### Outcomes of a ring controller's own accesses -/

theorem endCheckpointMark_only (e : AccessEnd) : OnlyRing r s (s.endCheckpointMark r e) := by
  unfold State.endCheckpointMark
  refine .trans (report_only r s e.ok) ?_
  simp only
  split
  · split
    · exact ((setRing_only ..).trans (raise_only ..)).trans (askPass_only ..)
    · split
      · exact failMark_only ..
      · exact (setRing_only ..).trans (requestMark_only ..)
  · exact .refl ..

theorem endRollbackMark_only (e : AccessEnd) : OnlyRing r s (s.endRollbackMark r e) := by
  unfold State.endRollbackMark
  refine .trans (report_only r s e.ok) ?_
  simp only
  split
  · split
    · exact ((setRing_only ..).trans (raise_only ..)).trans (askPass_only ..)
    · split
      · exact failMark_only ..
      · exact (setRing_only ..).trans (requestMark_only ..)
  · exact .refl ..

theorem endFreshMark_only (e : AccessEnd) : OnlyRing r s (s.endFreshMark r e) := by
  unfold State.endFreshMark
  refine .trans (report_only r s e.ok) ?_
  simp only
  split
  · split
    · exact ((setRing_only ..).trans (raise_only ..)).trans (askPass_only ..)
    · split
      · exact openFail_only ..
      · exact (setRing_only ..).trans (requestMark_only ..)
  · exact .refl ..

end Sys2Proof.Laws
end

