-- ==== Sys2Proof/Laws/Commands.lean ====
section
/-! SUPPORT. What the shared parts of the commands do: a command outside the device reset, the command unit, the events, and
the acts whose result depends on a few fields only. -/

namespace Sys2Proof.Machine

@[simp] theorem running_eq (s t : State) (h : s.inReset = false) : running s t = .next t := by simp [running, h]

/-- While RESET_N is low a command changes nothing. -/
@[simp] theorem running_reset (s t : State) (h : s.inReset = true) : running s t = .next s := by simp [running, h]

/-! ### The command unit -/

/-- The command being executed is the record of a slot that is EXECUTING. -/
theorem executing_some (s : State) (i : SlotId) (rec : List Byte) (h : s.executing = some (i, rec)) :
    s.slot i = .executing rec := by
  unfold State.executing at h
  obtain ⟨j, _, hj⟩ := List.exists_of_findSome?_eq_some h
  split at hj <;> simp at hj
  obtain ⟨rfl, rfl⟩ := hj
  assumption

/-- The command unit is idle exactly when no slot is EXECUTING. -/
theorem executing_none (s : State) : s.executing = none ↔ ∀ i rec, s.slot i ≠ .executing rec := by
  simp only [State.executing, List.findSome?_eq_none_iff, List.mem_finRange, true_implies]
  constructor
  · intro h i rec hi
    have := h i
    simp [hi] at this
  · intro h i
    split
    · exact absurd (by assumption) (h _ _)
    all_goals rfl

/-- The command that the slot `i` EXECUTING holds is the one being executed, when no other slot is EXECUTING. -/
theorem executing_iff (s : State) (i : SlotId) (rec : List Byte)
    (h : ∀ j k a b, s.slot j = .executing a → s.slot k = .executing b → j = k) :
    s.executing = some (i, rec) ↔ s.slot i = .executing rec := by
  refine ⟨executing_some s i rec, fun hi => ?_⟩
  cases he : s.executing with
  | none => exact absurd hi ((executing_none s).1 he i rec)
  | some p =>
    obtain ⟨j, r⟩ := p
    have hj := executing_some s j r he
    obtain rfl := h j i _ _ hj hi
    rw [hj] at hi
    cases hi
    rfl

/-- An idle command unit takes the record of the slot loaded first. -/
theorem nextCommand_iff (s : State) (i : SlotId) (rec : List Byte) :
    s.nextCommand = some (i, rec) ↔
      s.executing = none ∧ ∃ rest, s.loadOrder = i :: rest ∧ s.slot i = .loaded rec := by
  unfold State.nextCommand
  constructor
  · intro h
    split at h
    · next j rest he hl =>
      split at h <;> simp at h
      obtain ⟨rfl, rfl⟩ := h
      exact ⟨he, rest, hl, by assumption⟩
    · simp at h
  · rintro ⟨he, rest, h1, h2⟩
    simp [he, h1, h2]

@[simp] theorem commandAt_whole (s : State) : s.commandAt .whole = s.nextCommand := rfl

@[simp] theorem commandAt_takes (s : State) : s.commandAt .takes = none := rfl

@[simp] theorem commandAt_answers (s : State) : s.commandAt .answers = s.executing := rfl

/-- Everything the taking of a command does: the slot becomes EXECUTING and leaves the load order. -/
theorem takeCommand_eq (s : State) (i : SlotId) (rest : List SlotId) (rec : List Byte) (mine : Option CommandCode)
    (he : s.executing = none) (hl : s.loadOrder = i :: rest) (hs : s.slot i = .loaded rec)
    (hc : commandOf (byteAt rec 0) = mine) :
    s.takeCommand mine = { s.setSlot i (.executing rec) with loadOrder := rest } := by
  have h := (nextCommand_iff s i rec).2 ⟨he, rest, hl, hs⟩
  simp [State.takeCommand, h, hc, hl]

/-- With no command to take, or one of another code, nothing is taken. -/
theorem takeCommand_other (s : State) (mine : Option CommandCode)
    (h : ∀ i rec, s.nextCommand = some (i, rec) → commandOf (byteAt rec 0) ≠ mine) : s.takeCommand mine = s := by
  unfold State.takeCommand
  split
  · rfl
  · next i rec hn => simp [h i rec hn]

theorem ringOf_some (rec : List Byte) (r : RingId) (h : byteAt rec 1 = r.val) : ringOf rec = some r := by
  simp [ringOf, h]

theorem ringOf_none (rec : List Byte) (h : 3 < byteAt rec 1) : ringOf rec = none := by
  simp only [ringOf, dite_eq_right_iff]
  omega

/-- Everything the answer of a command does: the owner's act, then the answer in the slot. -/
theorem execute_eq (s : State) (part : CommandPart) (i : SlotId) (rec : List Byte) (code : CommandCode)
    (owner : RingId → List Byte → State → Answer) (r : RingId) (h : s.commandAt part = some (i, rec))
    (hc : commandOf (byteAt rec 0) = some code) (hr : ringOf rec = some r) :
    s.execute part code owner =
      (owner r rec s).state.answerSlot i rec (owner r rec s).status (owner r rec s).result := by
  cases part <;> simp_all [State.execute, State.answerCommand]

theorem execute_bad_ring (s : State) (part : CommandPart) (i : SlotId) (rec : List Byte) (code : CommandCode)
    (owner : RingId → List Byte → State → Answer) (h : s.commandAt part = some (i, rec))
    (hc : commandOf (byteAt rec 0) = some code) (hr : ringOf rec = none) :
    s.execute part code owner = s.answerSlot i rec .badValue [] := by
  cases part <;> simp_all [State.execute, State.answerCommand]

theorem execute_other (s : State) (part : CommandPart) (i : SlotId) (rec : List Byte) (code : CommandCode)
    (owner : RingId → List Byte → State → Answer) (h : s.commandAt part = some (i, rec))
    (hc : commandOf (byteAt rec 0) ≠ some code) : s.execute part code owner = s := by
  cases part <;> simp_all [State.execute, State.answerCommand]

theorem execute_takes (s : State) (code : CommandCode) (owner : RingId → List Byte → State → Answer) :
    s.execute .takes code owner = s.takeCommand (some code) := rfl

theorem execute_idle (s : State) (part : CommandPart) (code : CommandCode)
    (owner : RingId → List Byte → State → Answer) (hp : part ≠ .takes) (h : s.commandAt part = none) :
    s.execute part code owner = s := by
  cases part <;> simp_all [State.execute, State.answerCommand]

/-- An answer changes the slot and the load order alone. -/
theorem answerSlot_ring (s : State) (i : SlotId) (rec : List Byte) (st : Status) (result : List Byte) (r : RingId) :
    (s.answerSlot i rec st result).ring r = s.ring r := rfl

theorem answerSlot_events (s : State) (i : SlotId) (rec : List Byte) (st : Status) (result : List Byte) :
    (s.answerSlot i rec st result).events = s.events := rfl

/-! ### Events -/

/-- Everything an event does to the state. -/
theorem raise_eq (s : State) (b : EventBody) :
    s.raise b = { s with
      events := (s.raise b).events, overrun := (s.raise b).overrun, eventNumber := s.eventNumber + 1 } := by
  unfold State.raise
  split <;> rfl

theorem raise_eventNumber (s : State) (b : EventBody) : (s.raise b).eventNumber = s.eventNumber + 1 := by
  unfold State.raise
  split <;> rfl

theorem raise_prefix (s : State) (b : EventBody) : s.events <+: (s.raise b).events := by
  unfold State.raise
  split
  · exact List.prefix_append ..
  · exact List.prefix_rfl

/-- The queue depends on the events, their number and the event alone. -/
theorem raise_events_congr (s t : State) (b : EventBody) (h : t.events = s.events) (k : t.eventNumber = s.eventNumber) :
    (t.raise b).events = (s.raise b).events := by
  simp only [State.raise, h, k]
  split <;> rfl

/-! ### Own accesses -/

/-- Memory answers an access that belongs to the row: the tag is freed and its owner gets the outcome. -/
theorem answered_eq (s : State) (t : OwnTag) (e : AccessEnd) (p : Owner → Bool) (o : Owner) (n : Nat)
    (h : s.ownTag t = .inUse (some o) n) (hp : p o = true) : s.answered t e p = (s.setOwnTag t .free).deliver o e := by
  simp [State.answered, h, hp]

/-- In every other case nothing happens. -/
theorem answered_other (s : State) (t : OwnTag) (e : AccessEnd) (p : Owner → Bool)
    (h : ∀ o n, s.ownTag t = .inUse (some o) n → p o = false) : s.answered t e p = s := by
  unfold State.answered
  split
  · next o n hw => simp [h o n hw]
  · rfl
  · rfl
  · rfl

/-! ### Drains, epochs -/

/-- The drain of a ring depends on its count, its steered reads, the waiting accesses and the own tags alone. -/
theorem drained_congr (s t : State) (r : RingId) (h1 : (t.ring r).inFlight = (s.ring r).inFlight)
    (h2 : (t.ring r).steered = (s.ring r).steered) (h3 : t.service = s.service) (h4 : t.ownTags = s.ownTags) :
    t.drained r = s.drained r := by
  simp [State.drained, State.noneOutstanding, h1, h2, h3, h4]

theorem drainTest_undrained (s : State) (r : RingId) (h : s.drained r = false) : s.drainTest r = s := by
  simp [State.drainTest, h]

theorem epochAfter_eq (e : Epoch) : epochAfter e = if e.toNat = 4294967295 then 1 else e + 1 := by
  unfold epochAfter
  congr 1
  have := e.isLt
  simp only [eq_iff_iff]
  constructor <;> intro h <;> [skip; apply BitVec.eq_of_toNat_eq]
  · have := congrArg BitVec.toNat h
    simp [BitVec.toNat_add] at this
    omega
  · simp [BitVec.toNat_add, h]

theorem setRing_askPass (s : State) (r : RingId) (x : Ring) : (s.askPass).setRing r x = (s.setRing r x).askPass := rfl

end Sys2Proof.Machine
end

