-- ==== Sys2Proof/WellFormed.lean ====
section
/-! DEFINITION. What a command's operands must be to be a message the spec's ports can carry. -/

namespace Sys2Proof

/-- A WRITE carries as many data bytes and enables as its size gives, a READ none (R153). A request with an illegal
size code carries what it carries: the size gives no count. -/
def HostRequest.wellFormed (q : HostRequest) : Bool :=
  match q.kind with
  | .read => q.data.isEmpty && q.enables.isEmpty
  | .write => 4 ≤ q.size.toNat || (q.data.length == sizeBytes q.size && q.enables.length == sizeBytes q.size)

/-- A response to a read of `n` bytes carries `n` bytes when its status is OKAY (R153, R163). -/
def carries (status : MemStatus) (data : List Byte) (n : Nat) : Bool :=
  status != .okay || data.length == n

/-- The command is one that the ports can carry. -/
def Instr.wellFormed : Instr → Bool
  | .hostRequest q => q.wellFormed
  | .memoryResponse _ _ data => [0, 8, 16, 32, 64].contains data.length
  | .preReadComplete _ st data => carries st data 64
  | .restoreReadComplete _ st data => carries st data 32 || carries st data 64
  | .steeringReadComplete _ st data => carries st data 32 || carries st data 64
  | .searchReadComplete _ st data => carries st data 32
  | .walkReadComplete _ st data => carries st data 32 || carries st data 64
  | .unknownFrameKind kind _ => !Machine.kindDefined kind
  | .reEvaluation | .responseReturn | .arbiterGrant | .ownAccessTimeout _ _ | .orphanResponse _ _ _ => true
  | .reservationRequest _ | .imageWriteComplete _ _ | .headerWriteComplete _ _ | .durabilityReport _ _ => true
  | .checkpoint _ | .timerExpiry _ _ | .ckptEdge _ | .checkpointMarkWriteComplete _ _ => true
  | .rollback _ | .restoreWriteComplete _ _ | .rollbackMarkWriteComplete _ _ => true
  | .openRing _ | .freshMarkWriteComplete _ _ | .closeRing _ | .resetRing _ => true
  | .setMode _ | .writeRegion _ | .readRegion _ | .configureRing _ | .readRing _ | .setInterval _ => true
  | .unknownCommand _ => true
  | .commandFrame _ _ | .responseRead _ _ | .statusRead _ | .eventRead _ => true
  | .deviceReset | .deviceResetEnd _ _ => true

end Sys2Proof
end

