-- ==== Sys2Proof/Tests/Slice0.lean ====
section
/-! SUPPORT. Tests of the model against the worked examples of spec/, one step each, the ill-formed terms WellFormed
refuses, and for each obligation with hypotheses a witness: concrete states and operands that meet them. -/

namespace Sys2Proof.Tests

set_option Elab.async false

open Sys2Proof.Machine Sys2Proof.Safety

/-! ### States for the tests -/

/-- The state a command leaves. -/
def after (c : Instr) (s : State) : State :=
  match exec c s with
  | .next t => t
  | .fault _ | .refused _ => s

/-- The bridge in RUN mode, with nothing in it. -/
def idle : State := { State.reset with mode := .run }

/-- A region table that makes the 4 KiB page of an address a JOURNAL region of a ring. -/
def journaled (s : State) (page : Addr) (r : RingId) : State :=
  s.setRegion 0 { enable := true, base := page, mask := 0xFFFFFFF000, cls := .journal, ring := r }

/-- A command record with these first bytes, waiting in slot 0. -/
def sent (s : State) (bytes : List Byte) : State :=
  { s.setSlot 0 (.loaded (padTo 32 bytes)) with loadOrder := [0] }

/-- The status in the answer that slot 0 holds; 0 when it holds none. -/
def statusIn (s : State) : Nat :=
  match s.slot 0 with
  | .answered rec => byteAt rec 2
  | .empty | .loaded _ | .executing _ => 0

/-- The configuration of the worked example of chapter 1. -/
def config16 : RingConfig :=
  { base := 0x8000000, cells := 16, tag := 0x0A5C, policy := .refuse, highWater := 12, interval := 0, pin := false }

/-- A ring in ACTIVE with the positions given and both flags armed. -/
def activeRing (config : RingConfig) (release live : Nat) (nextSeq : Seq) (epoch : Epoch) (frontier : Seq)
    (score : Nat) : Ring :=
  { Ring.reset with
    config, phase := .active, release, produce := (release + live) % config.cells, live, nextSeq, epoch, frontier, score,
    complete := true, highArmed := true, fullArmed := true }

/-- A line image: bytes 0 to 63. -/
def image : List Byte := (List.range 64).map (BitVec.ofNat 8)

/-- A host write of 8 bytes. -/
def write8 (tag : HostTag) (addr : Addr) : HostRequest :=
  { kind := .write, tag, addr, size := 0, data := List.replicate 8 0x5A, enables := List.replicate 8 true }

/-- A host read of 8 bytes. -/
def read8 (tag : HostTag) (addr : Addr) : HostRequest :=
  { kind := .read, tag, addr, size := 0, data := [], enables := [] }

/-- A context of ring `r` for an 8-byte write, as its pre-read finds it. -/
def contextOf (r : RingId) (tag : HostTag) (addr : Addr) (phase : CtxPhase) : Context :=
  { req := write8 tag addr, ring := some r, phase, image := some image, reserved := none, retryUsed := false,
    access := .none, stopped := false }

/-- An outstanding write counted for ring `r`. -/
def countedTag (r : RingId) : Option TagEntry := some { kind := .write, counted := some r, atMemory := false }

/-- Own tag 37 in use by an owner, with time left. -/
def issuedTo (s : State) (o : Owner) : State := s.setOwnTag 5 (.inUse (some o) 1000)

/-! ### Well-formed commands (R153, R160, R163, R166) -/

theorem test_wellFormed_hostWrite : (Instr.hostRequest (write8 3 0x40)).wellFormed = true := by decide

theorem test_illFormed_readWithData :
    (Instr.hostRequest { read8 3 0x40 with data := [1] }).wellFormed = false := by decide

theorem test_illFormed_readWithEnables :
    (Instr.hostRequest { read8 3 0x40 with enables := [true] }).wellFormed = false := by decide

theorem test_illFormed_writeDataLength :
    (Instr.hostRequest { write8 3 0x40 with data := [] }).wellFormed = false := by decide

theorem test_illFormed_writeEnablesLength :
    (Instr.hostRequest { write8 3 0x40 with size := 1, data := List.replicate 16 0 }).wellFormed = false := by decide

theorem test_illFormed_memoryResponse : (Instr.memoryResponse 0 .okay [1, 2, 3]).wellFormed = false := by decide

theorem test_illFormed_preRead : (Instr.preReadComplete 0 .okay (List.replicate 63 0)).wellFormed = false := by decide

theorem test_wellFormed_failedRead : (Instr.preReadComplete 0 .error []).wellFormed = true := by decide

theorem test_illFormed_restoreRead :
    (Instr.restoreReadComplete 0 .okay (List.replicate 33 0)).wellFormed = false := by decide

theorem test_illFormed_steeringRead : (Instr.steeringReadComplete 0 .okay []).wellFormed = false := by decide

theorem test_illFormed_searchRead :
    (Instr.searchReadComplete 0 .okay (List.replicate 64 0)).wellFormed = false := by decide

theorem test_illFormed_walkRead : (Instr.walkReadComplete 0 .okay (List.replicate 8 0)).wellFormed = false := by decide

theorem test_illFormed_unknownFrameKind : (Instr.unknownFrameKind 0x20 4).wellFormed = false := by decide

theorem test_wellFormed_unknownFrameKind : (Instr.unknownFrameKind 0x21 4).wellFormed = true := by decide

/-- The table gives no row any bits, so no word spells a command. -/
theorem test_decodeTableWord_none : decodeTableWord 8 0x20 = none := by decide

/-- R166's table: kind byte 12h with one whole body byte and 3 bits of another, bit by bit. -/
theorem test_commandOfFrame_bits :
    commandOfFrame (portBytes [false, false, false, true, false, false, true, false, true, false, false, false, false, false,
      false, true, true, true, true]) = some (.responseRead 1 (.whole 1)) := by decide

/-- The bytes 12h and 81h on the port, most significant bit first (R166). -/
theorem test_portBits :
    [0x12, 0x81].flatMap portBits = [false, false, false, true, false, false, true, false, true, false, false, false, false,
      false, false, true] := by decide

/-! ### Layouts (chapter 12) -/

/-- R181's own test value. -/
theorem test_crc32_check :
    crc32 [0x31, 0x32, 0x33, 0x34, 0x35, 0x36, 0x37, 0x38, 0x39] = 0xCBF43926 := by decide +kernel

/-- R181: a header of zeros has a check that does not match its zero check field. -/
theorem test_crc32_zeroHeader : crc32 (List.replicate 28 0) ≠ 0 := by decide +kernel

/-- R180, written out from the table for the mark of step 6 of section 1.11. -/
theorem test_markHeader_bytes :
    (markHeader 2 0x0A5C
        { cell := 15, seq := 16, epoch := 2, reason := .checkpoint .command, released := 14 }).take 28 =
      [0x02, 0x7E, 2, 2, 0x5C, 0x0A, 2, 0, 0, 0, 0, 0, 0, 0, 0, 0, 16, 0, 0, 0, 0, 0, 0, 0, 14, 0, 0, 0] := by
  decide +kernel

/-- R180, written out from the table for a record of line 2000000940h. -/
theorem test_preImageHeader_bytes :
    (preImageHeader 1 { seq := 0x0102030405060708, cell := 3, tag := 0x0B17, epoch := 7 } 0x2000000940 image).take 28 =
      [0x01, 0x7E, 1, 0, 0x17, 0x0B, 7, 0, 0, 0, 0x40, 0x09, 0, 0, 0x20, 0, 8, 7, 6, 5, 4, 3, 2, 1, 0, 0, 0, 0] := by
  decide +kernel

/-- Section 1.11: the cells of the ring at 8000000h. -/
theorem test_cellAddr : config16.cellAddr 11 = 0x8000580 ∧ config16.cellAddr 15 = 0x8000780 ∧
    config16.imageAddr 14 = 0x8000740 := by decide

/-- R184, CHECKPOINTED of step 7 of section 1.11 with number 250, written out from the table. -/
theorem test_eventRecord_bytes : eventRecord ⟨250, .checkpointed 2 .command 2 14⟩ =
    [250, 3, 2, 2, 2, 0, 0, 0, 14, 0, 0, 0, 0xFF, 0, 0, 0] := by decide

/-- R183, the ring of step 6 of section 1.11, written out from the table: lag 1, state 3, sub-phase 4, live 16, complete,
capacity 16. -/
theorem test_ringResult_bytes :
    ringResult { activeRing config16 0 16 17 1 15 5 with
        phase := .checkpointingMark, highArmed := false, fullArmed := false } =
      [1, 0, 0, 0, 17, 0, 0, 0, 0, 0, 0, 0, 1, 0, 0, 0, 0, 0x8C, 16, 0, 0x40, 1, 0, 0, 0, 0, 0, 5] := by decide

/-! ### The journal ring (section 1.11) -/

/-- Ring 2 before step 2, with a write in RESERVE. -/
def ring2 (live : Nat) (nextSeq : Seq) (high : Bool) : State :=
  (idle.setRing 2 { activeRing config16 0 live nextSeq 1 11 0 with highArmed := high }).setCtx 0
    (some (contextOf 2 3 0x20000908 .reserve))

/-- Steps 1 and 2: sequence 12 takes cell 11, and the twelfth live cell raises FILL-HIGH with count 12. -/
theorem test_reservationRequest_fillHigh :
    let t := after (.reservationRequest 0) (ring2 11 12 true)
    (t.ring 2).produce = 12 ∧ (t.ring 2).live = 12 ∧ (t.ring 2).nextSeq = 13 ∧ (t.ring 2).highArmed = false ∧
      t.events = [⟨0, .fillHigh 2 12⟩] ∧ (t.ctx 0).map (·.phase) = some .imageWrite ∧
      t.journal.map (·.addr) = [0x80005C0] := by decide +kernel

/-- Steps 4: at live count 15 the request is answered FULL, RING-FULL is raised and the host write gets ERROR. -/
theorem test_reservationRequest_full :
    let t := after (.reservationRequest 0) (ring2 15 16 false)
    (t.ring 2).live = 15 ∧ (t.ring 2).nextSeq = 16 ∧ (t.ring 2).fullArmed = false ∧ t.events = [⟨0, .ringFull 2⟩] ∧
      t.ready = [⟨3, .error, []⟩] := by decide +kernel

/-- Step 6: the mark takes the spare cell 15, sequence 16, epoch 2, released 14. -/
theorem test_checkpoint_mark :
    let t := after .checkpoint (sent (idle.setRing 2 (activeRing config16 0 15 16 1 15 0)) [8, 2])
    statusIn t = 2 ∧ (t.ring 2).phase = .checkpointingMark ∧ (t.ring 2).produce = 0 ∧ (t.ring 2).live = 16 ∧
      (t.ring 2).nextSeq = 17 ∧
      (t.ring 2).mark = some { cell := 15, seq := 16, epoch := 2, reason := .checkpoint .command, released := 14 } ∧
      t.journal.map (fun a => (a.addr, a.size)) = [(0x8000780, 2)] := by decide +kernel

/-- Ring 2 at step 6, its mark write issued under own tag 37. -/
def marking : State :=
  issuedTo (idle.setRing 2 { activeRing config16 0 15 17 1 15 0 with
    phase := .checkpointingMark, produce := 0, live := 16, reason := some .command, highArmed := false,
    fullArmed := false,
    mark := some { cell := 15, seq := 16, epoch := 2, reason := .checkpoint .command, released := 14 } })
    (.checkpointMark 2)

/-- Step 7: the durable mark starts epoch 2. -/
theorem test_checkpointMarkWriteComplete_okay :
    let t := after (.checkpointMarkWriteComplete 5 .okay) marking
    (t.ring 2).phase = .active ∧ (t.ring 2).release = 15 ∧ (t.ring 2).produce = 0 ∧ (t.ring 2).live = 1 ∧
      (t.ring 2).epoch = 2 ∧ (t.ring 2).frontier = 16 ∧ (t.ring 2).highArmed = true ∧
      t.events = [⟨0, .checkpointed 2 .command 2 14⟩] ∧ t.ownTag 5 = .free := by decide +kernel

/-- Ring 2 at step 9: records 17, 18 and 19 outstanding, 19 durable, and the reports of 17 and 18 sent. -/
def reporting : State :=
  { idle.setRing 2 { activeRing config16 15 4 20 2 16 0 with
      outstanding := [⟨17, 0, false⟩, ⟨18, 1, false⟩, ⟨19, 2, true⟩] } with
    reports := [⟨2, 17⟩, ⟨2, 18⟩] }

/-- Step 10: the report of 17 moves the frontier to 17. -/
theorem test_durabilityReport_head :
    let t := after (.durabilityReport 2 17) reporting
    (t.ring 2).frontier = 17 ∧ (t.ring 2).outstanding = [⟨18, 1, false⟩, ⟨19, 2, true⟩] ∧ t.reports = [⟨2, 18⟩] := by
  decide +kernel

/-- A report behind a record that is not durable moves nothing (step 9's case). -/
theorem test_durabilityReport_behind :
    let t := after (.durabilityReport 2 18) reporting
    (t.ring 2).frontier = 16 ∧
      (t.ring 2).outstanding = [⟨17, 0, false⟩, ⟨18, 1, true⟩, ⟨19, 2, true⟩] := by decide +kernel

/-! ### The classifier (section 2.6) -/

/-- The regions and rings of section 2.6: ring 1 ACTIVE with line 20000840h tracked, ring 0 in RESTORE, ring 2 CLOSED. -/
def threeRings : State :=
  let j : Addr → Addr → RegionClass → RingId → Region := fun base mask cls ring => { enable := true, base, mask, cls, ring }
  ((((((idle.setRegion 0 (j 0x20000000 0xFFFFFFF000 .journal 1)).setRegion 1
    (j 0x20000000 0xFFFFF00000 .guard 0)).setRegion 2 (j 0x20000000 0xFFF0000000 .journal 0)).setRegion 4
    (j 0x8000000000 0x8000001000 .journal 2)).setRing 1
      { activeRing config16 0 2 3 1 2 0 with touched := [⟨0x20000840, 1, false⟩] }).setRing 0
      { activeRing config16 0 2 3 1 2 0 with
        phase := .rollingRestore, cursor := some 1, expected := some 2, touched := [⟨0x20100000, 1, false⟩] })

/-- The rows of the table of section 2.6: a tracked write, a write that takes a context, GUARD, ROLLING, CLOSED, PASS. -/
theorem test_hostRequest_treatments :
    let t := after (.hostRequest (write8 0 0x20000840)) threeRings
    let u := after (.hostRequest (write8 0 0x20000900)) threeRings
    t.forward = [write8 0 0x20000840] ∧ (t.ring 1).inFlight = 1 ∧
    u.forward = [] ∧ (u.ring 1).inFlight = 1 ∧ (u.ctx 0).map (·.phase) = some .preRead ∧
      u.journal.map (fun a => (a.addr, a.size)) = [(0x20000900, 3)] ∧
    (after (.hostRequest (write8 0 0x20001000)) threeRings).ready = [⟨0, .error, []⟩] ∧
    (after (.hostRequest (read8 0 0x20001000)) threeRings).forward = [read8 0 0x20001000] ∧
    (after (.hostRequest (write8 0 0x20100020)) threeRings).ready = [⟨0, .retry, []⟩] ∧
    ((after (.hostRequest (read8 0 0x20100020)) threeRings).ring 0).steered.length = 1 ∧
    ((after (.hostRequest (write8 0 0x8000002040)) threeRings).ring 2).inFlight = 1 ∧
    (after (.hostRequest (write8 0 0x8000003040)) threeRings).forward = [write8 0 0x8000003040] := by decide +kernel

/-- The refusals at the end of section 2.6: RINGS-OPEN and NOT-CONFIG. -/
theorem test_setMode_ringsOpen : statusIn (after .setMode (sent threeRings [1, 0, 0, 0, 0])) = 8 := by decide +kernel

theorem test_writeRegion_notConfig : statusIn (after .writeRegion (sent threeRings [2, 0, 0, 0, 3])) = 6 := by
  decide +kernel

/-- R182's positions of WRITE-REGION. -/
theorem test_writeRegion_stores :
    (after .writeRegion (sent State.reset
      [2, 3, 0, 0, 11, 1, 2, 0, 0, 0x10, 0, 0, 0x80, 0, 0, 0, 0, 0xF0, 0xFF, 0xFF, 0xFF])).region 11 =
      { enable := true, base := 0x8000001000, mask := 0xFFFFFFF000, cls := .guard, ring := 3 } := by decide +kernel

/-- R31, R182: the entry's ring stands in byte 7, and byte 1 keeps the echo. -/
theorem test_readRegion_answer :
    (after .readRegion (sent threeRings [3, 3, 0, 0, 4])).slot 0 = .answered (padTo 32
      [3, 3, 1, 0, 4, 1, 1, 2, 0, 0, 0, 0, 0x80, 0, 0, 0, 0, 0x10, 0, 0, 0x80]) := by decide +kernel

theorem test_setMode_run : (after .setMode (sent State.reset [1, 0, 0, 0, 1])).mode = .run := by decide +kernel

/-- R3 and R182's positions, with the configuration of section 1.11. -/
theorem test_configureRing_stores :
    ((after .configureRing (sent State.reset
      [4, 2, 0, 0, 16, 0, 0, 0, 0, 0, 0, 8, 0, 0, 0, 0, 0x5C, 0x0A, 0, 0, 12, 0, 0, 0])).ring 2).config = config16 := by
  decide +kernel

/-- R2: 17 cells are no multiple of 16. -/
theorem test_configureRing_badCells :
    statusIn (after .configureRing (sent State.reset [4, 2, 0, 0, 17, 0, 0, 0, 0, 0, 0, 8])) = 5 := by decide +kernel

/-- R183, the answer to READ-RING starts with the epoch. -/
theorem test_readRing_done :
    let t := after .readRing (sent (idle.setRing 2 (activeRing config16 0 15 16 1 15 0)) [5, 2])
    statusIn t = 1 ∧ t.slot 0 = .answered (padTo 32
      [5, 2, 1, 0, 1, 0, 0, 0, 16, 0, 0, 0, 0, 0, 0, 0, 0, 0, 0, 0, 0, 8, 15, 0, 0x40, 1, 0x80, 0, 0x20, 0, 0, 0]) := by
  decide +kernel

/-- R89, R91: code 3 is 250 ms. -/
theorem test_setInterval_active :
    ((after .setInterval (sent (idle.setRing 2 (activeRing config16 0 15 16 1 15 0)) [6, 2, 0, 0, 3])).ring 2).timer =
      some 250000 := by decide +kernel

/-! ### The write-ahead path (section 3.11) -/

/-- Ring 1 before the first write of section 3.11. -/
def config64 : RingConfig :=
  { base := 0x9000000, cells := 64, tag := 0x0B17, policy := .refuse, highWater := 48, interval := 0, pin := false }

/-- Ring 1 with score 18, and the write to line 20000A40h in context 1 with record 40 in cell 37. -/
def journaling (phase : CtxPhase) (retryUsed : Bool) (o : Owner) (score : Nat) : State :=
  (issuedTo (idle.setRing 1
    { activeRing config64 30 9 42 5 39 score with inFlight := 1, outstanding := [⟨40, 37, false⟩] }) o).setCtx 1
    (some { contextOf 1 7 0x20000A40 phase with
      retryUsed, access := .issued 5, reserved := some { seq := 40, cell := 37, tag := 0x0B17, epoch := 5 } })

/-- Step 4: an OKAY pre-read leads to the reservation request, and the score falls to 19. -/
theorem test_preReadComplete_okay :
    let t := after (.preReadComplete 5 .okay image) (journaling .preRead false (.preRead 1) 20)
    (t.ctx 1).map (fun y => (y.phase, y.image)) = some (.reserve, some image) ∧ (t.ring 1).score = 19 := by
  decide +kernel

/-- R45: an ERROR answers the host write ERROR. -/
theorem test_preReadComplete_error :
    let t := after (.preReadComplete 5 .error []) (journaling .preRead false (.preRead 1) 20)
    t.ready = [⟨7, .error, []⟩] ∧ (t.ctx 1).map (·.phase) = some .answering ∧ (t.ring 1).score = 36 := by
  decide +kernel

/-- Step 6: the failed image write is retried at offset 64 of cell 37, and the score goes from 18 to 34. -/
theorem test_imageWriteComplete_retry :
    let t := after (.imageWriteComplete 5 .error) (journaling .imageWrite false (.imageWrite 1) 18)
    (t.ring 1).score = 34 ∧ (t.ctx 1).map (·.retryUsed) = some true ∧
      t.journal.map (·.addr) = [0x90012C0] := by decide +kernel

/-- Step 9: the retry succeeds, retry used is cleared, and the header write follows. -/
theorem test_imageWriteComplete_okay :
    let t := after (.imageWriteComplete 5 .okay) (journaling .imageWrite true (.imageWrite 1) 32)
    (t.ring 1).score = 31 ∧ (t.ctx 1).map (fun y => (y.phase, y.retryUsed)) = some (.headerWrite, false) ∧
      t.journal.map (fun a => (a.addr, a.size)) = [(0x9001280, 2)] := by decide +kernel

/-- Step 10: the header write sends the durability report of record 40. -/
theorem test_headerWriteComplete_okay :
    let t := after (.headerWriteComplete 5 .okay) (journaling .headerWrite false (.headerWrite 1) 31)
    (t.ring 1).score = 30 ∧ t.reports = [⟨1, 40⟩] ∧ (t.ctx 1).map (·.phase) = some .awaitFrontier := by
  decide +kernel

/-- Section 9.6, step 3: a second failure breaks the ring with RECORD-FAILED, and the host write is forwarded. -/
theorem test_headerWriteComplete_breaks :
    let t := after (.headerWriteComplete 5 .error) (journaling .headerWrite true (.headerWrite 1) 72)
    (t.ring 1).score = 88 ∧ (t.ring 1).phase = .broken ∧ t.events = [⟨0, .broken 1 .recordFailed 9⟩] ∧
      t.forward = [write8 7 0x20000A40] := by decide +kernel

/-! ### The hold queue (section 5.11), the host port and the memory port -/

/-- The write of tag 4 held for CONTEXT and the read of tag 5 of another line held for LINE, contexts free, a pass asked. -/
def holding : State :=
  { (journaled (idle.setRing 0 (activeRing config16 0 2 3 1 2 0)) 0x30000000 0).setTag 4
      (some { kind := .write, counted := none, atMemory := false }) with
    hold := [⟨write8 4 0x30000040, some 0, .context⟩, ⟨read8 5 0x30000048, some 0, .line⟩], passAsked := true }

/-- As step 2: the write takes a context and is counted, and the read stays held behind its line. -/
theorem test_reEvaluation_context :
    let t := after .reEvaluation holding
    t.hold = [⟨read8 5 0x30000048, some 0, .line⟩] ∧ (t.ctx 0).map (·.phase) = some .preRead ∧
      (t.ring 0).inFlight = 1 := by decide +kernel

/-- R79, R81: with one place left the tracked write leaves, counted, and the read behind it stops the pass. -/
theorem test_reEvaluation_stops :
    let e := fun q : HostRequest => (⟨q, none, .line⟩ : HoldEntry)
    let t := after .reEvaluation { threeRings.setTag 4 (some { kind := .write, counted := none, atMemory := false }) with
      hold := [e (write8 4 0x20000840), e (read8 5 0x40000000), e (write8 6 0x20100020)], passAsked := true,
      forward := List.replicate 3 (read8 8 0x40) }
    t.forward.drop 3 = [write8 4 0x20000840] ∧ (t.ring 1).inFlight = 1 ∧ t.passStopped = true ∧ t.ready = [] ∧
      t.hold = [e (read8 5 0x40000000), e (write8 6 0x20100020)] := by decide +kernel

/-- A read at memory under tag 9. -/
def reading : State :=
  idle.setTag 9 (some { kind := .read, counted := none, atMemory := true })

theorem test_memoryResponse_read :
    (after (.memoryResponse 9 .okay (List.replicate 8 7)) reading).ready = [⟨9, .okay, List.replicate 8 7⟩] := by
  decide +kernel

theorem test_memoryResponse_unknownTag : (after (.memoryResponse 8 .okay []) reading).ready = [] := by decide +kernel

/-- Section 3.11, step 12: the response frees the context and the tag, and the in-flight count falls. -/
theorem test_responseReturn_frees :
    let t := after .responseReturn
      { (journaling .forwarded false (.preRead 0) 30).setTag 7 (countedTag 1) with ready := [⟨7, .okay, []⟩] }
    t.ctx 1 = none ∧ t.tagEntry 7 = none ∧ (t.ring 1).inFlight = 0 ∧ t.hostOut = some ⟨7, .okay, []⟩ := by
  decide +kernel

/-- Section 10.6, step 1: no own tag is free, so HOST is granted although JOURNAL is searched after. -/
def tagsShort (tag : OwnTagState) (forward : List HostRequest) : State :=
  { ({ idle with ownTags := Vector.replicate 32 .quarantined }).setOwnTag 20 tag with
    forward, journal := [headerRead (.steerHeader 0 4) config16 3], service := [headerRead (.restoreHeader 0) config16 5],
    lastClass := .journal }

theorem test_arbiterGrant_hostWithoutOwnTags :
    let t := after .arbiterGrant (tagsShort .quarantined [read8 3 0x40, read8 9 0x80])
    t.forward = [read8 9 0x80] ∧ t.lastClass = .host ∧ t.memOut.map (·.tag) = some 3 := by decide +kernel

/-- Section 10.6, step 6: after JOURNAL comes SERVICE; own tag 52 is taken. -/
theorem test_arbiterGrant_service :
    let t := after .arbiterGrant (tagsShort .free [])
    t.service = [] ∧ t.lastClass = .service ∧ t.memOut.map (·.tag) = some 52 ∧
      t.ownTag 20 = .inUse (some (.restoreHeader 0)) 1000 := by decide +kernel

theorem test_ownAccessTimeout_quarantines :
    let t := after (.ownAccessTimeout 5 1000) (journaling .imageWrite false (.imageWrite 1) 56)
    t.ownTag 5 = .quarantined ∧ (t.ring 1).score = 72 ∧ t.events = [⟨0, .scoreSuspect 1 72⟩] := by decide +kernel

theorem test_ownAccessTimeout_early :
    (after (.ownAccessTimeout 5 999) (journaling .imageWrite false (.imageWrite 1) 56)).ownTag 5 =
      .inUse (some (.imageWrite 1)) 1 := by decide +kernel

/-- Section 10.6, step 5. -/
theorem test_orphanResponse_frees :
    (after (.orphanResponse 20 .okay []) (tagsShort .quarantined [])).ownTag 20 = .free := by decide +kernel

/-! ### Checkpoints (section 6.11) -/

/-- The ring of section 6.11: its checkpoint interval is 250 ms, and pin enable is yes. -/
def pinRing : Ring := { activeRing { config64 with interval := 3, pin := true } 20 7 501 12 499 40 with timer := some 40000 }

theorem test_timerExpiry_starts :
    (after (.timerExpiry 0 40000) (idle.setRing 0 { pinRing with inFlight := 3 })).ring 0 =
      { pinRing with inFlight := 3, phase := .checkpointingDrain, reason := some .timer, timer := none } := by decide +kernel

theorem test_timerExpiry_early :
    (after (.timerExpiry 0 39999) (idle.setRing 0 pinRing)).ring 0 = { pinRing with timer := some 1 } := by decide +kernel

/-- The edge starts a checkpoint only in the ring with pin enable that is ACTIVE (step 3: another is absorbed). -/
theorem test_ckptEdge_starts :
    let t := after .ckptEdge ((idle.setRing 0 { pinRing with inFlight := 3 }).setRing 1
      { pinRing with phase := .checkpointingDrain, reason := some .command })
    (t.ring 0).phase = .checkpointingDrain ∧ (t.ring 0).reason = some .pin ∧ (t.ring 1).reason = some .command := by
  decide +kernel

/-- R165: a line that is high when the reset ends gives an edge only once it has been seen low. -/
theorem test_ckptEdge_firstSample :
    let s := { (idle.setRing 0 { pinRing with inFlight := 3 }) with ckptLevel := true }
    ((after (.ckptEdge [true, true]) s).ring 0).phase = .active ∧
      ((after (.ckptEdge [true, false, true]) s).ring 0).phase = .checkpointingDrain ∧
      (after (.ckptEdge [true]) s).ckptSampled = true := by decide +kernel

/-- Steps 12: the first ERROR of the mark write is retried at the same cell; the score goes from 35 to 51. -/
theorem test_checkpointMarkWriteComplete_retry :
    let t := after (.checkpointMarkWriteComplete 5 .error)
      (marking.modRing 2 fun x => { x with score := 35 })
    (t.ring 2).score = 51 ∧ (t.ring 2).markRetry = true ∧ (t.ring 2).phase = .checkpointingMark ∧
      t.journal.map (·.addr) = [0x8000780] := by decide +kernel

/-! ### Rollback and steering (section 7.9) -/

/-- Ring 1 of section 7.9: the mark in cell 10, pre-images of lines A, B and C in cells 11 to 13. -/
def ring7 : Ring :=
  { activeRing { config64 with cells := 32, highWater := 0 } 10 4 204 7 203 20 with
    touched := [⟨0x20001000, 11, false⟩, ⟨0x20001040, 12, false⟩, ⟨0x20001080, 13, false⟩] }

/-- Step 1: the drain ends at once, and the header of cell 13 is read. -/
theorem test_rollback_start :
    let t := after .rollback (sent (idle.setRing 1 ring7) [9, 1])
    statusIn t = 2 ∧ (t.ring 1).phase = .rollingRestore ∧ (t.ring 1).cursor = some 13 ∧
      (t.ring 1).expected = some 203 ∧ t.service.map (·.addr) = [0x9000680] := by decide +kernel

/-- The header of the record of line `line` with sequence `seq` in epoch 7. -/
def record7 (seq : Seq) (line : Addr) : List Byte :=
  preImageHeader 1 { seq, cell := 0, tag := 0x0B17, epoch := 7 } line image

/-- Ring 1 in the restore, at cell `cell`. -/
def restoring (cell : Nat) (expected : Seq) (o : Owner) (header : List Byte) : State :=
  issuedTo (idle.setRing 1 { ring7 with
    phase := .rollingRestore, cursor := some cell, expected := some expected, restoreHeader := some header,
    restoreImage := some image }) o

/-- Step 3: the record of cell 13 passes, and its image is written to line C. -/
theorem test_restoreReadComplete_passes :
    let t := after (.restoreReadComplete 5 .okay image) (restoring 13 203 (.restoreImage 1) (record7 203 0x20001080))
    (t.ring 1).score = 19 ∧ t.service.map (fun a => (a.kind, a.addr, a.size, a.data)) =
      [(.write, 0x20001080, 3, image)] := by decide +kernel

/-- A record whose sequence number is not the expected one breaks the ring with CHECKSUM (R109, R118). -/
theorem test_restoreReadComplete_checksum :
    let t := after (.restoreReadComplete 5 .okay image) (restoring 13 203 (.restoreImage 1) (record7 202 0x20001080))
    (t.ring 1).phase = .broken ∧ (t.ring 1).lastCause = .checksum := by decide +kernel

/-- Step 5: cell 13 is restored, and the cursor goes to cell 12 with sequence 202 expected. -/
theorem test_restoreWriteComplete_next :
    let t := after (.restoreWriteComplete 5 .okay) (restoring 13 203 (.restoreWrite 1) (record7 203 0x20001080))
    (t.ring 1).cursor = some 12 ∧ (t.ring 1).expected = some 202 ∧ (t.ring 1).restored = 1 ∧
      (t.ring 1).touched.map (·.restored) = [false, false, true] := by decide +kernel

/-- Step 11: the cursor reaches the release cell, and the mark takes cell 14, sequence 204, epoch 8, released 3. -/
theorem test_restoreWriteComplete_mark :
    let t := after (.restoreWriteComplete 5 .okay) (restoring 11 201 (.restoreWrite 1) (record7 201 0x20001000))
    (t.ring 1).phase = .rollingMark ∧
      (t.ring 1).mark = some { cell := 14, seq := 204, epoch := 8, reason := .rollback, released := 3 } := by
  decide +kernel

/-- Ring 1 in MARK of the rollback, at the end of step 11. -/
def rollMarking : State :=
  issuedTo (idle.setRing 1 { ring7 with
    phase := .rollingMark, restored := 3, produce := 15, live := 5, nextSeq := 205,
    mark := some { cell := 14, seq := 204, epoch := 8, reason := .rollback, released := 3 } }) (.rollbackMark 1)

/-- Step 12: the rollback completes. -/
theorem test_rollbackMarkWriteComplete_okay :
    let t := after (.rollbackMarkWriteComplete 5 .okay) rollMarking
    t.events = [⟨0, .rolledBack 1 8 3⟩] ∧ (t.ring 1).release = 14 ∧ (t.ring 1).live = 1 ∧ (t.ring 1).frontier = 204 ∧
      (t.ring 1).touched = [] ∧ (t.ring 1).complete = true := by decide +kernel

/-- Ring 1 in the restore with the read of 8 bytes at 20001008h steered, its header read. -/
def steering (header : Option (List Byte)) (o : Owner) : State :=
  issuedTo (idle.setRing 1 { ring7 with
    phase := .rollingRestore, cursor := some 12, expected := some 202,
    steered := [⟨read8 3 0x20001008, 11, header⟩] }) o

/-- Step 7: the host read is answered with bytes 8 to 15 of the image. -/
theorem test_steeringReadComplete_answers :
    let t := after (.steeringReadComplete 5 .okay image)
      (steering (some (record7 201 0x20001000)) (.steerImage 1 3))
    t.ready = [⟨3, .okay, [8, 9, 10, 11, 12, 13, 14, 15]⟩] ∧ (t.ring 1).steered = [] := by decide +kernel

/-- R123: a failed steering read is answered ERROR. -/
theorem test_steeringReadComplete_error :
    (after (.steeringReadComplete 5 .error []) (steering none (.steerHeader 1 3))).ready = [⟨3, .error, []⟩] := by
  decide +kernel

/-! ### Opens, closes and resets (section 8.7) -/

/-- R130: a FRESH open reserves its mark at cell 0 with sequence 1 and epoch 1. -/
theorem test_openRing_fresh :
    let t := after .openRing (sent (idle.setRing 2 { Ring.reset with config := config16 }) [7, 2, 0, 0, 1])
    statusIn t = 2 ∧ (t.ring 2).phase = .openingMark ∧ (t.ring 2).produce = 1 ∧ (t.ring 2).nextSeq = 2 ∧
      (t.ring 2).mark = some { cell := 0, seq := 1, epoch := 1, reason := .fresh, released := 0 } := by decide +kernel

/-- R132: a RECOVER open requests four header reads. -/
theorem test_openRing_recover :
    let t := after .openRing (sent (idle.setRing 2 { Ring.reset with config := config16 }) [7, 2, 0, 0, 2])
    (t.ring 2).phase = .openingScan ∧ t.service.map (·.addr) = [0x8000000, 0x8000080, 0x8000100, 0x8000180] := by
  decide +kernel

/-- The FRESH mark of ring 2 is being written. -/
def fresh : State :=
  issuedTo (idle.setRing 2 { Ring.reset with
    config := config16, phase := .openingMark, openMode := some .fresh, produce := 1, live := 1, nextSeq := 2,
    mark := some { cell := 0, seq := 1, epoch := 1, reason := .fresh, released := 0 } }) (.freshMark 2)

/-- Section 1.11, step 0. -/
theorem test_freshMarkWriteComplete_okay :
    let t := after (.freshMarkWriteComplete 5 .okay) fresh
    (t.ring 2).phase = .active ∧ (t.ring 2).live = 1 ∧ (t.ring 2).epoch = 1 ∧ (t.ring 2).frontier = 1 ∧
      t.events = [⟨0, .opened 2 .fresh 1 1⟩] := by decide +kernel

/-- Ring 3 of section 8.7, in the search or the walk. -/
def scanning (o : Owner) (scanPart : ScanPart) (reads count : Nat) (newest : Option NewestMark) : State :=
  issuedTo (idle.setRing 3 { Ring.reset with
    config := { config16 with base := 0x6000000, tag := 0x1C40, highWater := 0 }, phase := .openingScan,
    openMode := some .recover, scanPart := some scanPart, searchCell := 16, scanReads := reads, score := 16, newest,
    walkCell := some (6 + count), walkCount := count, walkHeader := some
      (preImageHeader 3 { seq := 81 + BitVec.ofNat 64 count, cell := 0, tag := 0x1C40, epoch := 4 } 0x40 image) }) o

/-- The mark of cell 13 does not replace the mark of cell 5, and the last read starts the walk at cell 6. -/
theorem test_searchReadComplete_walk :
    let t := after (.searchReadComplete 5 .okay
        (markHeader 3 0x1C40 { cell := 13, seq := 72, epoch := 3, reason := .checkpoint .command, released := 0 }))
      (scanning (.searchHeader 3 13) .search 1 0 (some ⟨5, 80, 4⟩))
    (t.ring 3).newest = some ⟨5, 80, 4⟩ ∧ (t.ring 3).scanPart = some .walk ∧ (t.ring 3).walkCell = some 6 ∧
      t.service.map (·.addr) = [0x6000300] := by decide +kernel

/-- With no mark found the open fails with NO-JOURNAL (R133). -/
theorem test_searchReadComplete_noJournal :
    let t := after (.searchReadComplete 5 .okay (List.replicate 32 0))
      (scanning (.searchHeader 3 13) .search 1 0 none)
    (t.ring 3).phase = .closed ∧ t.events = [⟨0, .openFailed 3 .noJournal⟩] := by decide +kernel

/-- Cell 10: the image does not match the torn header, and the open completes with live count 5. -/
theorem test_walkReadComplete_torn :
    let t := after (.walkReadComplete 5 .okay (List.replicate 64 0))
      (scanning (.walkImage 3) .walk 1 4 (some ⟨5, 80, 4⟩))
    (t.ring 3).phase = .active ∧ (t.ring 3).release = 5 ∧ (t.ring 3).live = 5 ∧ (t.ring 3).produce = 10 ∧
      (t.ring 3).nextSeq = 85 ∧ (t.ring 3).frontier = 84 ∧ t.events = [⟨0, .opened 3 .recover 4 5⟩] := by
  decide +kernel

/-- Cell 6 is accepted, and the header of cell 7 is read. -/
theorem test_walkReadComplete_accepted :
    let t := after (.walkReadComplete 5 .okay image) (scanning (.walkImage 3) .walk 1 0 (some ⟨5, 80, 4⟩))
    (t.ring 3).walkCount = 1 ∧ (t.ring 3).walkCell = some 7 ∧ t.service.map (·.addr) = [0x6000380] := by
  decide +kernel

/-- R139: a close without writes in flight completes at once. -/
theorem test_closeRing_completes :
    let t := after .closeRing (sent (idle.setRing 2 (activeRing config16 0 15 16 1 15 5)) [0x0A, 2])
    statusIn t = 2 ∧ (t.ring 2).phase = .closed ∧ (t.ring 2).live = 15 ∧ (t.ring 2).score = 5 ∧
      t.events = [⟨0, .closed 2 .command⟩] := by decide +kernel

/-- Section 9.6, step 11: the score is cleared, and the last BROKEN cause stays. -/
theorem test_resetRing_done :
    let t := after .resetRing (sent (idle.setRing 2 { activeRing config64 8 7 40 30 38 168 with
      phase := .broken, lastCause := .score }) [0x0B, 2])
    statusIn t = 1 ∧ (t.ring 2).phase = .closed ∧ (t.ring 2).score = 0 ∧ (t.ring 2).lastCause = .score ∧
      t.events = [⟨0, .closed 2 .reset⟩] := by decide +kernel

/-- Section 9.6, step 10: SCORE-HIGH. -/
theorem test_checkpoint_scoreHigh :
    statusIn (after .checkpoint (sent (idle.setRing 2 { activeRing config64 8 7 40 30 38 168 with phase := .broken })
      [8, 2])) = 9 := by decide +kernel

/-! ### The management port (section 11.8) -/

/-- The event queue of section 11.8 before step 6: 32 records, the next number 252. -/
def fullQueue : State :=
  { idle with
    events := (List.range 32).map fun n => ⟨BitVec.ofNat 8 (220 + n), .ringFull 0⟩, eventNumber := 252 }

/-- Step 6: PROTOCOL, number 252, is dropped; and an illegal request is answered ERROR (R156). -/
theorem test_hostRequest_refused :
    let t := after (.hostRequest (read8 6 0x40)) (fullQueue.setTag 6 (countedTag 0))
    t.events.length = 32 ∧ t.overrun = true ∧ t.eventNumber = 253 ∧
      (after (.hostRequest (read8 6 0x44)) idle).ready = [⟨6, .error, []⟩] := by decide +kernel

/-- Step 1. -/
theorem test_commandFrame_loads :
    let t := after (.commandFrame 0 (padTo 33 [8, 1])) idle
    t.slot 0 = .loaded (padTo 32 [8, 1]) ∧ t.loadOrder = [0] ∧ t.rejected.get 0 = false := by decide +kernel

/-- Step 3: slot 0 is ANSWERED, and the frame is discarded. -/
theorem test_commandFrame_rejected :
    let t := after (.commandFrame 0 (padTo 32 [5, 1])) (idle.setSlot 0 (.answered (padTo 32 [8, 1, 2])))
    t.slot 0 = .answered (padTo 32 [8, 1, 2]) ∧ t.loadOrder = [] ∧ t.rejected.get 0 = true := by decide +kernel

/-- Step 7. -/
theorem test_statusRead_clears :
    let t := after (.statusRead (.whole 16)) ({ fullQueue with overrun := true }.setRejected 0 true)
    t.sdo = [0, 1, 0, 0, 1, 32, 1, 0, 0, 0, 0, 252, 0, 0, 0, 0, 0] ∧ t.overrun = false ∧ t.rejected.get 0 = false := by
  decide +kernel

/-- Step 8: cut short after 10 bytes, the slot stays ANSWERED. -/
theorem test_responseRead_cutShort :
    let t := after (.responseRead 0 (.whole 10)) (idle.setSlot 0 (.answered (padTo 32 [8, 1, 2])))
    t.sdo = [0, 8, 1, 2, 0, 0, 0, 0, 0, 0, 0] ∧ t.slot 0 = .answered (padTo 32 [8, 1, 2]) := by decide +kernel

/-- Step 9. -/
theorem test_responseRead_completed :
    (after (.responseRead 0 (.whole 32)) (idle.setSlot 0 (.answered (padTo 32 [8, 1, 2])))).slot 0 = .empty := by
  decide +kernel

/-- Step 11, the last of its reads. -/
theorem test_eventRead_removes :
    let t := after (.eventRead (.whole 16)) { idle with events := [⟨251, .scoreSuspect 3 64⟩] }
    t.sdo = [0, 251, 9, 3, 0, 0, 0, 0, 0, 64, 0, 0, 0, 0xFF, 0, 0, 0] ∧ t.notify = false := by decide +kernel

theorem test_eventRead_empty :
    (after (.eventRead (.whole 16)) idle).sdo = [0, 0, 0, 0xFF, 0, 0, 0, 0, 0, 0, 0, 0, 0, 0xFF, 0, 0, 0] := by
  decide +kernel

theorem test_unknownFrameKind_ignored :
    after (.unknownFrameKind 0x21 3) idle = { idle with sdo := [0, 0, 0, 0] } := by decide +kernel

theorem test_unknownCommand_answered :
    statusIn (after .unknownCommand (sent idle [0x0C, 9])) = 0x0A := by decide +kernel

/-- R170, R173: between its two acts the slot is EXECUTING, and a STATUS read reports 2 for slot 0. -/
theorem test_unknownCommand_twoActs :
    let t := after (.unknownCommand .takes) (sent idle [0x0C, 9])
    t.slot 0 = .executing (padTo 32 [0x0C, 9]) ∧ t.loadOrder = [] ∧
      (after (.statusRead (.whole 16)) t).sdo = [0, 1, 2, 0, 0, 0, 0, 0, 0, 0, 0, 0, 0, 0, 0, 0, 0] ∧
      statusIn (after (.unknownCommand .answers) t) = 0x0A := by decide +kernel

/-! ### The device reset and the step -/

/-- R165, R179: no command but the end of the reset acts while RESET_N is low. -/
theorem test_deviceReset_holds :
    let t := after .deviceReset fullQueue
    t.events = [] ∧ t.notify = false ∧ after (.hostRequest (read8 0 0)) t = t := by decide +kernel

theorem test_deviceResetEnd : after (.deviceResetEnd false) (after .deviceReset fullQueue) = State.reset := by
  decide +kernel

/-- The step takes the front of the queue. -/
theorem test_step_front :
    step { idle with pending := [.hostRequest (read8 6 0x44), .deviceReset] } =
      .next { after (.hostRequest (read8 6 0x44)) idle with pending := [.deviceReset] } := by rfl

/-- A step on an empty queue is a tick (log 2). -/
theorem test_step_tick :
    step (idle.setRing 0 pinRing) =
      .next { idle.setRing 0 { pinRing with timer := some 39999 } with ckptSampled := true } := by rfl

/-! ### Witnesses of the obligations' hypotheses

Each names states and operands that meet the hypotheses of the obligation after which it is named, clause by clause; the
values stand at the boundaries of the clauses where a clause speaks of a range. -/

theorem witness_DeviceResetAndItsEnd :
    (after .deviceReset idle).inReset = true ∧ Instr.responseReturn ≠ .deviceReset ∧
      (∀ b h, Instr.responseReturn ≠ .deviceResetEnd b h) ∧
      (after (.deviceResetEnd true) (after .deviceReset idle)).inReset = false ∧
      (after (.deviceResetEnd true) (after .deviceReset idle)).frameWait = true ∧
      (0x00 : Byte) ∉ ([0x01, 0x02, 0x11, 0x12, 0x20, 0x30] : List Byte) ∧
      (FramePart.whole 3 = .whole 3 ∨ FramePart.whole 3 = .ends 3) := by decide +kernel

/-- The hypotheses that all frame statements share. -/
def framesFree (s : State) : Bool := !s.inReset && s.frame.isNone && !s.frameWait

/-- Both sides of the length 32, an EMPTY slot and one that is not, and the first kind byte that is not defined. -/
theorem witness_FramesToTheBridge :
    framesFree idle = true ∧ idle.slot 0 = .empty ∧ (sent idle [8]).slot 0 ≠ .empty ∧ framesFree (sent idle [8]) = true ∧
      (padTo 31 [8]).length < 32 ∧ ¬(padTo 32 [8]).length < 32 ∧ (List.replicate 7 true).length < 8 ∧
      (0x00 : Byte) ∉ ([0x01, 0x02, 0x11, 0x12, 0x20, 0x30] : List Byte) := by decide +kernel

theorem witness_ResponseReadCollectsTheAnswer :
    framesFree (idle.setSlot 0 (.answered (padTo 32 [8, 1, 2]))) = true ∧
      (idle.setSlot 0 (.answered (padTo 32 [8, 1, 2]))).slot 0 = .answered (padTo 32 [8, 1, 2]) ∧
      (padTo 32 [8, 1, 2]).length = 32 ∧ framesFree idle = true ∧ (∀ rec, idle.slot 0 ≠ .answered rec) :=
  ⟨by decide +kernel, by decide +kernel, by decide +kernel, by decide +kernel, fun _ h => by cases h⟩

theorem witness_StatusAndEventReads :
    framesFree fullQueue = true ∧ fullQueue.events.length ≤ 32 ∧ fullQueue.events = ⟨220, .ringFull 0⟩ :: fullQueue.events.tail ∧
      framesFree idle = true ∧ idle.events = [] ∧
      (EventBody.broken 0 .full (2 ^ 32 - 1)).countField < 2 ^ 32 := by decide +kernel

/-- The kind byte on a slot that is ANSWERED and one that is not, and on a queue that holds an event and one that is empty. -/
theorem witness_ReadFramesActOnWhatTheyTook_kindByte :
    let s := idle.setSlot 0 (.answered (padTo 32 [8, 1, 2]))
    let u := s.raise (.ringFull 1)
    framesFree s = true ∧ s.slot 0 = .answered (padTo 32 [8, 1, 2]) ∧ s.events = [] ∧ framesFree u = true ∧
      u.events = ⟨0, .ringFull 1⟩ :: [] ∧ (∀ rec, s.slot 1 ≠ .answered rec) :=
  ⟨by decide +kernel, by decide +kernel, by decide +kernel, by decide +kernel, by decide +kernel, fun _ h => by cases h⟩

/-- The state in which the frame ends differs from the one in which it was taken: an event has joined and slot 0's
rejected flag was set in between. The frames end one byte before their record does, and with it. -/
theorem witness_ReadFramesActOnWhatTheyTook :
    let t := (idle.raise (.ringFull 0)).setRejected 0 true
    let records := [statusRecord idle, eventRecord ⟨0, .ringFull 1⟩, padTo 32 [8, 1, 2]]
    t.inReset = false ∧ t.frameWait = false ∧ records.map List.length = [16, 16, 32] ∧
      ({ t with frame := some (.status (statusRecord idle) false false false) }.frame =
        some (.status (statusRecord idle) false false false)) ∧
      (∀ held, { t with frame := some (.event (eventRecord ⟨0, .ringFull 1⟩) held) }.frame =
        some (.event (eventRecord ⟨0, .ringFull 1⟩) held)) ∧
      (∀ held, { t with frame := some (.response 0 (padTo 32 [8, 1, 2]) held) }.frame =
        some (.response 0 (padTo 32 [8, 1, 2]) held)) ∧
      ∀ rec ∈ records, rec.length - 1 < rec.length ∧ rec.length ≤ rec.length := by decide +kernel

theorem witness_EventQueueTakesAnEvent :
    (fullQueue.events.drop 1).length < 32 ∧ 32 ≤ fullQueue.events.length ∧ 31 = (fullQueue.events.drop 1).length := by
  decide +kernel

theorem witness_NotifyFollowsTheEventQueue :
    (idle.raise (.ringFull 0)).inReset = false ∧ framesFree (idle.raise (.ringFull 0)) = true ∧
      (idle.raise (.ringFull 0)).events = [⟨0, .ringFull 0⟩] ∧ 32 ≤ fullQueue.events.length := by decide +kernel

theorem witness_EventsLeaveOnlyByEventReads :
    (∀ p, Instr.hostRequest (read8 6 0x44) ≠ .eventRead p) ∧ Instr.hostRequest (read8 6 0x44) ≠ .deviceReset ∧
      exec (.hostRequest (read8 6 0x44)) fullQueue = .next (after (.hostRequest (read8 6 0x44)) fullQueue) :=
  ⟨fun p => by cases p <;> simp, by decide, rfl⟩

/-- The state in which the command unit has taken the command of slot 0. -/
def taken (s : State) (bytes : List Byte) : State :=
  { (sent s bytes).setSlot 0 (.executing (padTo 32 bytes)) with loadOrder := [] }

/-- The codes on both sides of the defined ones, and the first ring field out of range with the first and last code; each
as the next command and as the one being executed. -/
theorem witness_CommandUnitRefusesAndAnswers :
    (∀ b ∈ [[0, 9], [0x0C, 0], [1, 4], [0x0B, 4]], framesFree (sent idle b) = true ∧
      (sent idle b).loadOrder = 0 :: [] ∧ (sent idle b).slot 0 = .loaded (padTo 32 b) ∧
      (∀ k, (match (sent idle b).slot k with
        | .executing _ => false
        | _ => true) = true) ∧
      (sent idle b).commandAt .whole = some (0, padTo 32 b) ∧ (taken idle b).commandAt .answers = some (0, padTo 32 b)) ∧
      byteAt (padTo 32 [0, 9]) 0 = 0 ∧ 0x0B < byteAt (padTo 32 [0x0C, 0]) 0 ∧ 3 < byteAt (padTo 32 [1, 4]) 1 ∧
      byteAt (padTo 32 [1, 4]) 0 = 1 ∧ 3 < byteAt (padTo 32 [0x0B, 4]) 1 ∧ byteAt (padTo 32 [0x0B, 4]) 0 = 0x0B ∧
      (ringResult Ring.reset).length ≤ 28 := by decide +kernel

/-- The record `bytes` is the next command, of code `code` and ring `r`, and once taken the one being executed. -/
def waits (s : State) (bytes : List Byte) (code r : Nat) : Bool :=
  !(sent s bytes).inReset && (sent s bytes).commandAt .whole == some (0, padTo 32 bytes) &&
    (taken s bytes).commandAt .answers == some (0, padTo 32 bytes) &&
    byteAt (padTo 32 bytes) 0 == code && byteAt (padTo 32 bytes) 1 == r

/-- Mode bytes 0, 1 and 2, in CONFIG, in RUN with all rings closed and in RUN with a ring open. -/
theorem witness_SetModeAnswers :
    (∀ s ∈ [State.reset, idle, threeRings], ∀ m ∈ [0, 1, 2], waits s [1, 3, 0, 0, BitVec.ofNat 8 m] 1 3 = true) ∧
      (∀ r, ((sent idle [1, 3]).ring r).phase = .closed) ∧ ¬∀ r, ((sent threeRings [1, 3]).ring r).phase = .closed := by
  decide +kernel

/-- One record for each limit that is passed by one, and one with every field at its limit. -/
theorem witness_WriteRegionReplacesOneEntry :
    let bad : List (List Byte) := [[2, 3, 0, 0, 12], [2, 3, 0, 0, 0, 2], [2, 3, 0, 0, 0, 0, 3], [2, 3, 0, 0, 0, 0, 0, 0, 1],
      [2, 3, 0, 0, 0, 0, 0, 0, 0, 0, 0, 0, 0, 0, 0, 0, 0, 8]]
    let good : List Byte := [2, 3, 0, 0, 11, 1, 2, 0, 0, 0x10, 0, 0, 0x80, 0, 0, 0, 0, 0xF0, 0xFF, 0xFF, 0xFF]
    (∀ b ∈ bad, waits State.reset b 2 3 = true) ∧ waits State.reset good 2 3 = true ∧ waits idle good 2 3 = true ∧
      State.reset.mode = .config ∧ idle.mode = .run ∧ bad.map (fun b => (11 < byteAt (padTo 32 b) 4 : Bool)) =
        [true, false, false, false, false] ∧ 1 < byteAt (padTo 32 (bad.getD 1 [])) 5 ∧
      2 < byteAt (padTo 32 (bad.getD 2 [])) 6 ∧ fieldAt (padTo 32 (bad.getD 3 [])) 8 5 % 4096 ≠ 0 ∧
      fieldAt (padTo 32 (bad.getD 4 [])) 16 5 % 4096 ≠ 0 ∧
      byteAt (padTo 32 good) 4 = 11 ∧ byteAt (padTo 32 good) 5 ≤ 1 ∧ byteAt (padTo 32 good) 6 ≤ 2 ∧
      fieldAt (padTo 32 good) 8 5 % 4096 = 0 ∧ fieldAt (padTo 32 good) 16 5 % 4096 = 0 := by decide +kernel

theorem witness_ReadRegionReturnsTheEntry :
    waits idle [3, 3, 0, 0, 11] 3 3 = true ∧ waits idle [3, 3, 0, 0, 12] 3 3 = true ∧ waits idle [3, 4, 0, 0, 0] 3 4 = true ∧
      byteAt (padTo 32 [3, 3, 0, 0, 11]) 4 = (11 : Fin 12).val ∧ 11 < byteAt (padTo 32 [3, 3, 0, 0, 12]) 4 ∧
      3 < byteAt (padTo 32 [3, 4, 0, 0, 0]) 1 := by decide +kernel

/-- The answers of the parameter checks on a ring in CLOSED and one that is not: 262,144 cells at the top of memory and one
page above it, 17 cells, high-water at capacity − 1 and at the capacity, and the codes one above their last. -/
theorem witness_ConfigureRingChecksAndStores :
    let top : List Byte := [4, 0, 0, 0, 0, 0, 4, 0, 0, 0, 0, 0xFE, 0xFF]
    let good : List (List Byte) := [top, [4, 0], [4, 0, 0, 0, 16, 0, 0, 0, 0, 0, 0, 8, 0, 1, 5, 1, 0, 0, 0, 0, 15]]
    let bad : List (List Byte) := [[4, 0, 0, 0, 0, 0, 4, 0, 0, 0x10, 0, 0xFE, 0xFF], [4, 0, 0, 0, 17],
      [4, 0, 0, 0, 16, 0, 0, 0, 0, 0, 0, 0, 0, 0, 0, 0, 0, 0, 0, 0, 16], [4, 0, 0, 0, 0, 0, 0, 0, 0, 0, 0, 0, 0, 0, 0, 0, 0, 0, 0, 0, 1],
      [4, 0, 0, 0, 0, 0, 0, 0, 0, 0, 0, 0, 0, 2], [4, 0, 0, 0, 0, 0, 0, 0, 0, 0, 0, 0, 0, 0, 6],
      [4, 0, 0, 0, 0, 0, 0, 0, 0, 0, 0, 0, 0, 0, 0, 2], [4, 0, 0, 0, 0, 0, 0, 0, 1]]
    (∀ b ∈ good ++ bad, waits idle b 4 0 = true ∧ ((sent idle b).ring 0).phase = .closed) ∧
      (∀ b ∈ good, (configOf (padTo 32 b)).isSome = true) ∧ (∀ b ∈ bad, configOf (padTo 32 b) = none) ∧
      waits threeRings top 4 0 = true ∧ ((sent threeRings top).ring 0).phase ≠ .closed := by decide +kernel

/-- A ring with every field of its status record at its limit. -/
theorem witness_ReadRingReportsTheRing :
    let x : Ring := { activeRing { config64 with cells := 262144 } 262143 262144 5 1 5 255 with
      inFlight := 32, timer := some 5000000, lastCause := .sequence, nextSeq := 0, frontier := 0xFFFFFFFFFFFC0000,
      touched := List.replicate 256 ⟨0, 0, false⟩ }
    waits idle [5, 3] 5 3 = true ∧ x.epoch ≠ 0 ∧ (x.nextSeq - 1 - x.frontier).toNat = 2 ^ 18 - 1 ∧
      Ring.reset.epoch = 0 ∧ x.inFlight < 64 ∧ x.release < 2 ^ 18 ∧
      x.live < 2 ^ 19 ∧ x.lastCause ≠ .noJournal ∧ x.config.cells % 16 = 0 ∧ x.config.cells ≤ 262144 ∧
      x.timer = some 5000000 ∧ x.touched.length ≤ 256 ∧ x.score ≤ 255 := by decide +kernel

theorem witness_SetIntervalRestartsTheTimer :
    waits idle [6, 0, 0, 0, 6] 6 0 = true ∧ 5 < byteAt (padTo 32 [6, 0, 0, 0, 6]) 4 ∧
      waits (idle.setRing 0 pinRing) [6, 0, 0, 0, 5] 6 0 = true ∧
      byteAt (padTo 32 [6, 0, 0, 0, 5]) 4 = (5 : Fin 6).val := by decide +kernel

/-- Every ring state a command meets, and in BROKEN both sides of score 160. -/
theorem witness_RingOperationAnswers :
    ∀ p ∈ [Phase.closed, .openingScan, .active, .checkpointingDrain, .rollingMark, .closingDrain, .broken],
      ∀ score ∈ [159, 160], ∀ code ∈ [7, 8, 9, 10], ∀ mode ∈ [0, 1, 2, 3],
        waits (idle.setRing 2 { activeRing config16 0 2 3 1 2 score with phase := p })
          [BitVec.ofNat 8 code, 2, 0, 0, BitVec.ofNat 8 mode] code 2 = true := by decide +kernel

/-- A ring that drains: with an in-flight write, and with none. -/
def draining (p : Phase) (mode : Option OpenMode) (inFlight : Nat) : State :=
  idle.setRing 2 { activeRing config16 0 3 4 1 3 0 with phase := p, openMode := mode, inFlight }

theorem witness_DrainTest :
    (draining .closingDrain none 1).drained 2 = false ∧ ((draining .active none 0).ring 2).phase.sub ≠ .drain ∧
      (∀ p ∈ [Phase.checkpointingDrain, .rollingDrain, .closingDrain], (draining p none 0).drained 2 = true ∧
        ((draining p none 0).ring 2).phase = p) ∧
      ∀ m ∈ [OpenMode.fresh, .recover], (draining .openingDrain (some m) 0).drained 2 = true ∧
        ((draining .openingDrain (some m) 0).ring 2).phase = .openingDrain ∧
        ((draining .openingDrain (some m) 0).ring 2).openMode = some m := by decide +kernel

/-- A ring whose numbers are used up drains at once, and one whose last number is left. -/
theorem witness_CheckpointStart :
    (draining .active none 1).drained 2 = false ∧
      (idle.setRing 2 (activeRing config16 0 3 0 1 3 0)).drained 2 = true ∧
      ((idle.setRing 2 (activeRing config16 0 3 0 1 3 0)).ring 2).nextSeq = 0 ∧
      (idle.setRing 2 (activeRing config16 0 3 0xFFFFFFFFFFFFFFFF 0xFFFFFFFF 3 0)).drained 2 = true ∧
      ((idle.setRing 2 (activeRing config16 0 3 0xFFFFFFFFFFFFFFFF 0xFFFFFFFF 3 0)).ring 2).nextSeq ≠ 0 := by
  decide +kernel

/-- The timer's 40,000 µs: exactly passed, and short by one; and pin enable yes and no. -/
theorem witness_TimerAndPinTriggers :
    let s := idle.setRing 0 pinRing
    s.inReset = false ∧ (s.ring 0).phase = .active ∧ (s.ring 0).timer = some 40000 ∧ 40000 ≤ 40000 ∧ 39999 < 40000 ∧
      (s.ring 1).phase ≠ .active ∧ (s.ring 1).timer = none ∧ (s.ring 0).config.pin = true ∧
      (s.ring 1).config.pin = false ∧ s.pending = [] ∧
      s.ckptSampled = false ∧ (after (.ckptEdge [false]) s).ckptSampled = true ∧
      (after (.ckptEdge [false]) s).ckptLevel = false := by decide +kernel

/-- No pre-image in the epoch, with a number left and without, and three of them. -/
theorem witness_RollbackStart :
    let only := fun q : Seq => idle.setRing 2 (activeRing config16 5 1 q 1 3 0)
    (draining .active none 1).drained 2 = false ∧ (idle.setRing 1 ring7).drained 1 = true ∧
      (14 + 32 - 1) % 32 ≠ ((idle.setRing 1 ring7).ring 1).release ∧ ((idle.setRing 1 ring7).ring 1).produce = 14 ∧
      ∀ n ∈ [0, 0xFFFFFFFFFFFFFFFF], let q := BitVec.ofNat 64 n
        (only q).drained 2 = true ∧ ((only q).ring 2).nextSeq = q ∧
        (((only q).ring 2).produce + 16 - 1) % 16 = ((only q).ring 2).release := by decide +kernel

theorem witness_OpenStart :
    (draining .closed none 1).drained 2 = false ∧ (draining .closed none 0).drained 2 = true ∧
      16 ≤ ((draining .closed none 0).ring 2).config.cells := by decide +kernel

theorem witness_CloseStartAndCompletion :
    (draining .active none 1).drained 2 = false ∧ (draining .active none 0).drained 2 = true := by decide +kernel

/-- A request that waits beside a full forward buffer, and none that waits. -/
def waiting (s : State) : State :=
  { s with forward := List.replicate 4 (read8 8 0x40), decided := [⟨.classifier, read8 9 0x80⟩] }

theorem witness_ResetRingAbandonsEverything :
    let s := steering none (.steerHeader 1 3)
    waits s [0x0B, 1] 0x0B 1 = true ∧ waits (waiting s) [0x0B, 1] 0x0B 1 = true ∧ s.decided = [] ∧
      (waiting s).decided ≠ [] ∧ (waiting s).forward.length = 4 := by decide +kernel

theorem witness_BreakStopsJournaling :
    (∀ p ∈ [Phase.closed, .openingDrain, .openingScan, .openingMark, .broken],
      let x := (draining p none 0).ring 2
      x.phase = .closed ∨ x.phase.state = .opening ∨ x.phase = .broken) ∧
    ∀ p ∈ [Phase.active, .checkpointingDrain, .checkpointingMark, .rollingDrain, .rollingRestore, .rollingMark,
        .closingDrain],
      let x := (draining p none 0).ring 2
      x.phase ≠ .closed ∧ x.phase.state ≠ .opening ∧ x.phase ≠ .broken ∧ (draining p none 0).decided = [] ∧
        (waiting (draining p none 0)).forward.length = 4 := by decide +kernel

theorem witness_OpenFailure :
    (scanning (.searchHeader 3 13) .search 1 0 none).ownTag 5 = .inUse (some (.searchHeader 3 13)) 1000 ∧
      ∀ owner n, (scanning (.searchHeader 3 13) .search 1 0 none).ownTag 0 ≠ .inUse (some owner) n :=
  ⟨by decide +kernel, fun _ _ h => by cases h⟩

theorem witness_CheckpointAndRollbackMarkOutcome :
    marking.inReset = false ∧ (marking.ring 2).mark.isSome = true ∧
      marking.ownTag 5 = .inUse (some (.checkpointMark 2)) 1000 ∧ (marking.ring 2).phase = .checkpointingMark ∧
      (marking.ring 2).reason = some .command ∧ rollMarking.inReset = false ∧ (rollMarking.ring 1).mark.isSome = true ∧
      rollMarking.ownTag 5 = .inUse (some (.rollbackMark 1)) 1000 ∧ (rollMarking.ring 1).phase = .rollingMark := by
  decide +kernel

theorem witness_FreshMarkOutcome :
    fresh.inReset = false ∧ fresh.ownTag 5 = .inUse (some (.freshMark 2)) 1000 ∧ (fresh.ring 2).phase = .openingMark ∧
      (fresh.ring 2).mark = some { cell := 0, seq := 1, epoch := 1, reason := .fresh, released := 0 } := by decide +kernel

/-- A context of ring 1 whose access under own tag 37 is out, with journaling going on and stopped. -/
def accessOut (s : State) (o : Owner) (phase : CtxPhase) (c : CtxId) : Bool :=
  !s.inReset && s.ownTag 5 == .inUse (some o) 1000 &&
    (s.ctx c).any fun y => y.phase == phase && y.access == .issued 5 && y.ring == some 1 && y.reserved.isSome &&
      y.image.isSome

/-- The state with context 1's journaling stopped, as a break leaves it. -/
def stopped (s : State) : State := s.setCtx 1 ((s.ctx 1).map fun y => { y with stopped := true })

theorem witness_PreReadOutcome :
    let s := journaling .preRead false (.preRead 1) 20
    accessOut s (.preRead 1) .preRead 1 = true ∧ (s.ctx 1).map (·.stopped) = some false ∧
      accessOut (stopped s) (.preRead 1) .preRead 1 = true ∧ ((stopped s).ctx 1).map (·.stopped) = some true := by
  decide +kernel

/-- A grant at the last cell but the spare one, with the line's entry the 256th, the 257th, known, and the set incomplete;
and at and below the high-water level. -/
theorem witness_ReservationGranted :
    let s := fun (live : Nat) (touched : List TouchedEntry) (complete : Bool) =>
      (ring2 live 16 true).modRing 2 fun x => { x with touched, complete }
    let others := fun n => (List.range n).map fun k => (⟨0x40000000 + BitVec.ofNat 40 (64 * k), 1, false⟩ : TouchedEntry)
    let line : Addr := 0x20000900
    (∀ live ∈ [10, 11, 14], (s live [] true).inReset = false ∧ ((s live [] true).ctx 0).map (·.phase) = some .reserve ∧
      ((s live [] true).ctx 0).bind (·.ring) = some 2 ∧ ((s live [] true).ctx 0).map (·.stopped) = some false ∧
      ((s live [] true).ctx 0).bind (·.image) = some image ∧ ((s live [] true).ring 2).phase = .active ∧
      ((s live [] true).ring 2).nextSeq ≠ 0 ∧ ((s live [] true).ring 2).live + 2 ≤ 16) ∧
      ¬12 ≤ ((s 10 [] true).ring 2).live + 1 ∧ 12 ≤ ((s 11 [] true).ring 2).live + 1 ∧
      ((s 11 [] true).ring 2).highArmed = true ∧
      ((s 11 (others 255) true).ring 2).touched.length < 256 ∧ 256 ≤ ((s 11 (others 256) true).ring 2).touched.length ∧
      (¬∃ e ∈ ((s 11 (others 256) true).ring 2).touched, e.line = line) ∧
      (∃ e ∈ ((s 11 [⟨line, 4, false⟩] true).ring 2).touched, e.line = line) ∧
      ((s 11 [] false).ring 2).complete = false := by decide +kernel

/-- The ring's states at a reservation that is refused, on both sides of the full level. -/
theorem witness_ReservationRefused :
    let s := fun (live : Nat) (seq : Seq) (policy : FullPolicy) (p : Phase) => (ring2 live seq true).modRing 2 fun x =>
      { x with phase := p, config := { x.config with policy } }
    ∀ live ∈ [14, 15], ∀ seq ∈ [0, 5], ∀ policy ∈ [FullPolicy.refuse, .breaks],
      ∀ p ∈ [Phase.active, .closingDrain, .broken, .closed, .rollingRestore],
        let u := s live (BitVec.ofNat 64 seq) policy p
        u.inReset = false ∧ (u.ctx 0).map (·.phase) = some .reserve ∧ (u.ctx 0).bind (·.ring) = some 2 := by decide +kernel

/-- Scores on both sides of the step to 160, the retry used and not, journaling stopped and not. -/
theorem witness_ImageWriteOutcome :
    ∀ score ∈ [143, 144, 159, 160], ∀ retry ∈ [false, true],
      let s := journaling .imageWrite retry (.imageWrite 1) score
      accessOut s (.imageWrite 1) .imageWrite 1 = true ∧ accessOut (stopped s) (.imageWrite 1) .imageWrite 1 = true ∧
        (s.ring 1).score = score ∧ (s.ring 1).phase.mayBreak = true ∧ (s.ring 1).phase.sub ≠ .mark ∧
        (s.ctx 1).map (fun y => (y.retryUsed, y.stopped)) = some (retry, false) := by decide +kernel

theorem witness_HeaderWriteOutcome :
    ∀ score ∈ [143, 144, 159, 160], ∀ retry ∈ [false, true],
      let s := journaling .headerWrite retry (.headerWrite 1) score
      accessOut s (.headerWrite 1) .headerWrite 1 = true ∧ accessOut (stopped s) (.headerWrite 1) .headerWrite 1 = true ∧
        (s.ring 1).score = score ∧ (s.ring 1).phase.mayBreak = true ∧ (s.ring 1).phase.sub ≠ .mark ∧
        (s.ctx 1).map (fun y => (y.retryUsed, y.stopped)) = some (retry, false) := by decide +kernel

/-- A report that moves the frontier, one that does not, and one that names no entry. -/
theorem witness_DurabilityReportMovesTheFrontier :
    let s := { reporting with reports := [⟨2, 17⟩, ⟨2, 18⟩, ⟨2, 40⟩] }
    s.inReset = false ∧ ⟨2, 17⟩ ∈ s.reports ∧ ⟨2, 18⟩ ∈ s.reports ∧ ⟨2, 40⟩ ∈ s.reports ∧
      s.decided = [] ∧ (waiting s).forward.length = 4 ∧
      (∃ e ∈ (s.ring 2).outstanding, e.seq = 17) ∧ (¬∃ e ∈ (s.ring 2).outstanding, e.seq = 40) ∧
      ((after (.durabilityReport 2 17) s).ring 2).frontier ≠ (s.ring 2).frontier := by decide +kernel

/-- The last expected number that the walk tests (R134), and the first that it does not reach. -/
theorem witness_RecordTests :
    (0xFFFFFFFFFFFFFFFA : Seq).toNat + 4 + 1 < 2 ^ 64 ∧ ¬(0xFFFFFFFFFFFFFFFB : Seq).toNat + 4 + 1 < 2 ^ 64 := by decide

theorem witness_RestoreReadOutcome :
    let h := restoring 13 203 (.restoreHeader 1) (record7 203 0x20001080)
    let i := restoring 13 203 (.restoreImage 1) (record7 203 0x20001080)
    let first := h.modRing 1 fun x => { x with restoreHeader := none, restoreImage := none }
    let left := h.modRing 1 fun x => { x with phase := .checkpointingDrain }
    h.inReset = false ∧ h.ownTag 5 = .inUse (some (.restoreHeader 1)) 1000 ∧
      i.ownTag 5 = .inUse (some (.restoreImage 1)) 1000 ∧ (i.ring 1).phase = .rollingRestore ∧
      (first.ring 1).cursor = some 13 ∧ first.ownTag 5 = .inUse (some (.restoreHeader 1)) 1000 ∧
      (i.ring 1).cursor = some 13 ∧ (i.ring 1).restoreHeader = some (record7 203 0x20001080) ∧
      (left.ring 1).phase ≠ .rollingRestore ∧ left.ownTag 5 = .inUse (some (.restoreHeader 1)) 1000 := by decide +kernel

/-- The cursor one cell from the release cell and farther, and steered reads left and not. -/
theorem witness_RestoreWriteOutcome :
    let s := fun cell q => restoring cell q (.restoreWrite 1) (record7 q 0x20001080)
    let reading := (s 11 201).modRing 1 fun x => { x with steered := [⟨read8 3 0x20001008, 11, none⟩] }
    let left := (s 11 201).setRing 1 (ring7.broken .full)
    (∀ p ∈ [(13, (203 : Seq)), (11, 201)], (s p.1 p.2).inReset = false ∧
      (s p.1 p.2).ownTag 5 = .inUse (some (.restoreWrite 1)) 1000 ∧ ((s p.1 p.2).ring 1).cursor = some p.1 ∧
      ((s p.1 p.2).ring 1).expected = some p.2 ∧ ((s p.1 p.2).ring 1).phase = .rollingRestore ∧
      ((s p.1 p.2).ring 1).restoreHeader.isSome = true ∧ ((s p.1 p.2).ring 1).restoreImage.isSome = true ∧
      ((s p.1 p.2).ring 1).steered = []) ∧
      (13 + 32 - 1) % 32 ≠ ((s 13 203).ring 1).release ∧ (11 + 32 - 1) % 32 = ((s 11 201).ring 1).release ∧
      (reading.ring 1).steered ≠ [] ∧ (left.ring 1).phase ≠ .rollingRestore ∧
      left.ownTag 5 = .inUse (some (.restoreWrite 1)) 1000 := by decide +kernel

theorem witness_SteeringReadOutcome :
    let h := steering none (.steerHeader 1 3)
    let i := steering (some (record7 201 0x20001000)) (.steerImage 1 3)
    let left := h.modRing 1 fun x => { x with phase := .broken }
    h.inReset = false ∧ h.ownTag 5 = .inUse (some (.steerHeader 1 3)) 1000 ∧
      i.ownTag 5 = .inUse (some (.steerImage 1 3)) 1000 ∧
      ((((h.setOwnTag 5 .free).report 1 true).ring 1).steered.find? fun p => p.req.tag == 3) =
        some ⟨read8 3 0x20001008, 11, none⟩ ∧ (((h.setOwnTag 5 .free).report 1 true).ring 1).phase.state = .rolling ∧
      ((((i.setOwnTag 5 .free).report 1 true).ring 1).steered.find? fun p => p.req.tag == 3) =
        some ⟨read8 3 0x20001008, 11, some (record7 201 0x20001000)⟩ ∧
      (((left.setOwnTag 5 .free).report 1 false).ring 1).phase.state ≠ .rolling ∧
      ((((left.setOwnTag 5 .free).report 1 false).ring 1).steered.find? fun p => p.req.tag == 3) =
        some ⟨read8 3 0x20001008, 11, none⟩ := by decide +kernel

/-- The last scan read and one before, cells left and not, no mark, a mark with the last number, and the score at the step
to 160. -/
theorem witness_SearchReadOutcome :
    let s := fun reads newest searchCell => (scanning (.searchHeader 3 13) .search reads 0 newest).modRing 3 fun x =>
      { x with searchCell, score := 144 }
    (∀ reads ∈ [1, 4], ∀ newest ∈ [none, some ⟨5, 80, 4⟩, some ⟨5, 0xFFFFFFFFFFFFFFFF, 4⟩], ∀ cell ∈ [15, 16],
      (s reads newest cell).inReset = false ∧
      (s reads newest cell).ownTag 5 = .inUse (some (.searchHeader 3 13)) 1000 ∧
      ((s reads newest cell).ring 3).phase = .openingScan ∧ ((s reads newest cell).ring 3).scanPart = some .search ∧
      1 ≤ ((s reads newest cell).ring 3).scanReads ∧ ((s reads newest cell).ring 3).scanReads ≤ 4 ∧
      ((s reads newest cell).ring 3).newest = newest) ∧
      ((s 1 none 15).ring 3).searchCell < 16 ∧ 16 ≤ ((s 1 none 16).ring 3).searchCell ∧
      ((s 1 none 16).ring 3).score < 160 ∧ 160 ≤ ((s 1 none 16).ring 3).score + 16 ∧ 3 ≤ ((s 1 none 16).ring 3).config.cells := by
  decide +kernel

theorem witness_WalkReadOutcome :
    let h := scanning (.walkHeader 3) .walk 1 0 (some ⟨5, 80, 4⟩)
    let i := scanning (.walkImage 3) .walk 1 13 (some ⟨5, 80, 4⟩)
    h.inReset = false ∧ (h.ring 3).phase = .openingScan ∧ (h.ring 3).newest = some ⟨5, 80, 4⟩ ∧
      (h.ring 3).walkCell = some 6 ∧ h.ownTag 5 = .inUse (some (.walkHeader 3)) 1000 ∧
      i.ownTag 5 = .inUse (some (.walkImage 3)) 1000 ∧ (i.ring 3).walkHeader.isSome = true ∧
      16 ≤ (i.ring 3).walkCount + 3 ∧ ¬16 ≤ (h.ring 3).walkCount + 3 := by decide +kernel

/-- The host port takes requests: the hold queue and the forward buffer one short of full, no arrival waiting. -/
def nearlyFull : State :=
  { idle with
    hold := List.replicate 15 ⟨read8 9 0x40, none, .line⟩, forward := List.replicate 3 (read8 8 0x40) }

theorem witness_ReusedTagIsDiscarded :
    let s := nearlyFull.setTag 6 (countedTag 0)
    s.inReset = false ∧ s.hold.length < 16 ∧ s.forward.length < 4 ∧ (∀ d ∈ s.decided, d.source ≠ .classifier) ∧
      s.tagEntry (read8 6 0x40).tag ≠ none := by decide +kernel

/-- Size codes 4 and 7, an address off by 8 for 16 bytes, and a request that crosses a line. -/
theorem witness_IllegalRequestIsAnsweredError :
    nearlyFull.inReset = false ∧ nearlyFull.hold.length < 16 ∧ nearlyFull.forward.length < 4 ∧
      (∀ d ∈ nearlyFull.decided, d.source ≠ .classifier) ∧ nearlyFull.tagEntry 6 = none ∧ nearlyFull.ready = [] ∧
      (∀ n ∈ [4, 7], 4 ≤ { read8 6 0x40 with size := BitVec.ofNat 3 n }.size.toNat) ∧
      { read8 6 0x48 with size := 1 }.addr.toNat % (8 * 2 ^ 1) ≠ 0 ∧
      { read8 6 0x60 with size := 3 }.size.toNat < 4 ∧ (0x60 : Addr).toNat / 64 ≠ ((0x60 : Addr).toNat + 8 * 2 ^ 3 - 1) / 64 := by
  decide +kernel

theorem witness_HostRequestIsTaken :
    let q := read8 6 0x40
    (∀ s ∈ [nearlyFull, { nearlyFull with mode := .config }], s.inReset = false ∧ s.hold.length < 16 ∧
      s.forward.length < 4 ∧ (∀ d ∈ s.decided, d.source ≠ .classifier) ∧ s.tagEntry q.tag = none) ∧
      q.size.toNat < 4 ∧ q.addr.toNat % (8 * 2 ^ q.size.toNat) = 0 ∧
      16 ≤ { nearlyFull with hold := List.replicate 16 ⟨read8 9 0x40, none, .line⟩ }.hold.length ∧
      4 ≤ { nearlyFull with forward := List.replicate 4 (read8 8 0x40) }.forward.length ∧
      ∃ d ∈ { nearlyFull with decided := [⟨.classifier, read8 8 0x40⟩] }.decided, d.source = .classifier := by
  decide +kernel

/-- A read of a ROLLING ring: its set incomplete, the line not entered, entered and restored, and not restored. -/
theorem witness_ClassifierTests :
    let s := fun touched complete =>
      (idle.setTag 6 (some { kind := .read, counted := none, atMemory := true })).setRing 1
        { ring7 with phase := .rollingRestore, touched, complete }
    (s [] true).tagEntry (read8 6 0x20001008).tag = some { kind := .read, counted := none, atMemory := true } ∧
      ((s [] true).ring 1).phase.state = .rolling ∧ ((s [] true).ring 0).phase.state ≠ .rolling ∧
      ((s [] false).ring 1).complete = false ∧ ((s [] true).ring 1).complete = true ∧
      (∀ t ∈ ((s [⟨0x20001040, 12, false⟩] true).ring 1).touched, t.line ≠ lineOf 0x20001008) ∧
      (∀ b ∈ [false, true], ((s [⟨0x20001000, 11, b⟩] true).ring 1).touched.find?
        (fun t => t.line == lineOf 0x20001008) = some ⟨0x20001000, 11, b⟩) ∧
      ((s [] true).contextFor []) = some 0 := by decide +kernel

theorem witness_ReEvaluationPass :
    holding.inReset = false ∧ holding.passAsked = true ∧ holding.mode = .run ∧ idle.passAsked = false ∧
      (after .reEvaluation holding).passStopped = false ∧
      (after .reEvaluation holding).hold = [] ++ ⟨read8 5 0x30000048, some 0, .line⟩ :: [] ∧
      { holding with mode := .config }.mode = .config := by decide +kernel

theorem witness_MemoryResponseAndItsReturn :
    reading.inReset = false ∧ reading.tagEntry 9 = some { kind := .read, counted := none, atMemory := true } ∧
      reading.tagEntry 8 = none ∧
      { reading with ready := [⟨9, .okay, []⟩] }.ready = ⟨9, .okay, []⟩ :: [] ∧
      (holding.setCtx 2 (some (contextOf 0 4 0x30000040 .forwarded))).hold ≠ [] ∧
      ((holding.setCtx 2 (some (contextOf 0 4 0x30000040 .forwarded))).ctx 2).map (·.req.tag) = some 4 := by
  decide +kernel

/-- HOST, JOURNAL and SERVICE granted, and no class eligible. -/
theorem witness_ArbiterGrantsInCyclicOrder :
    idle.inReset = false ∧ idle.granted = none ∧
      (tagsShort .quarantined [read8 3 0x40]).granted = some .host ∧ (tagsShort .free []).granted = some .service ∧
      { tagsShort .free [] with lastClass := .host }.granted = some .journal ∧
      (tagsShort .free []).service = headerRead (.restoreHeader 0) config16 5 :: [] ∧
      { tagsShort .free [] with lastClass := .host }.journal = headerRead (.steerHeader 0 4) config16 3 :: [] ∧
      (tagsShort .quarantined [read8 3 0x40]).forward = read8 3 0x40 :: [] := by decide +kernel

theorem witness_OwnTagOutcomes :
    (issuedTo idle (.preRead 0)).inReset = false ∧ (issuedTo idle (.preRead 0)).ownTag 5 = .inUse (some (.preRead 0)) 1000 ∧
      (1000 : Nat) ≤ 1000 ∧ ¬(1000 : Nat) ≤ 999 ∧ (idle.setOwnTag 5 (.inUse none 1000)).ownTag 5 = .inUse none 1000 ∧
      (idle.setOwnTag 5 .quarantined).ownTag 5 = .quarantined ∧ idle.ownTag 5 = .free := by decide +kernel

theorem witness_WrittenRecordsPassTheirReaders :
    let v : Reserved := { seq := 85, cell := 10, tag := 0x0B17, epoch := 7 }
    let x := { ring7 with expected := some 85, walkCount := 4 }
    let m : NewestMark := { cell := 5, seq := 80, epoch := 7 }
    v.tag = x.config.tag ∧ v.epoch = x.epoch ∧ x.expected = some v.seq ∧ v.epoch = m.epoch ∧
      v.seq = m.seq + BitVec.ofNat 64 (x.walkCount + 1) ∧ (1 : Seq) ≠ 0 ∧ (1 : Epoch) ≠ 0 := by decide +kernel

/-! ### A state for the laws

Ring 2 writes the mark of section 1.11 with its whole capacity live, ring 1 has a write in its context 1, and that mark's
write completes next. -/

def lawState : State :=
  { (((marking.setRing 1 { activeRing config64 30 9 42 5 39 18 with
        inFlight := 1, outstanding := [⟨40, 37, false⟩, ⟨41, 38, true⟩] }).setCtx 1
      (some { contextOf 1 7 0x20000A40 .awaitFrontier with
        reserved := some { seq := 41, cell := 38, tag := 0x0B17, epoch := 5 } })).setTag 7 (countedTag 1)) with
    pending := [.checkpointMarkWriteComplete 5 .okay] }

/-- The state the next step leaves. -/
def lawNext : State :=
  match step lawState with
  | .next t => t
  | .fault _ | .refused _ => lawState

theorem lawState_step : step lawState = .next lawNext := rfl

theorem lawState_ctx (c : CtxId) (y : Context) (h : lawState.ctx c = some y) : c = 1 ∧
    y = { contextOf 1 7 0x20000A40 .awaitFrontier with
      reserved := some { seq := 41, cell := 38, tag := 0x0B17, epoch := 5 } } := by
  have hc : c = 1 := by
    have none_but : ∀ k : CtxId, k ≠ 1 → lawState.ctx k = none := by decide +kernel
    by_contra hk
    rw [none_but c hk] at h
    cases h
  subst hc
  exact ⟨rfl, by cases h; rfl⟩

theorem lawState_slots : SlotLaw lawState :=
  ⟨by decide +kernel, by decide +kernel, by decide +kernel,
    fun i rec h => by revert h; rw [show lawState.slot i = .empty by revert i; decide +kernel]; simp [record?],
    fun i rec h => by cases h⟩

theorem witness_EveryStepKeepsTheCapacities :
    step lawState = .next lawNext ∧ CapacityLaw lawState ∧ SlotLaw lawState :=
  ⟨lawState_step, by unfold CapacityLaw; decide +kernel, lawState_slots⟩

theorem witness_EveryStepKeepsTheRingStates :
    step lawState = .next lawNext ∧ ScoreLaw lawState ∧ ModeLaw lawState ∧ SettledLaw lawState :=
  ⟨lawState_step, by unfold ScoreLaw; decide +kernel, by unfold ModeLaw; decide +kernel,
    by unfold SettledLaw Settled; decide +kernel⟩

theorem lawState_live : LiveLaw lawState := by
  intro r
  unfold Positioned
  refine ⟨?_, ?_, ?_, fun h => ?_, fun h => ?_, ?_⟩
  · revert r; decide +kernel
  · revert r; decide +kernel
  · revert r; decide +kernel
  · have hr : r = 2 := by revert r; decide +kernel
    subst hr
    exact ⟨by decide +kernel, _, rfl, by decide +kernel⟩
  · exact absurd h (by revert r; decide +kernel)
  · revert r; decide +kernel

theorem witness_EveryStepKeepsTheNumbering : NumberLaw lawState ∧ step lawState = .next lawNext ∧
    (lawState.ring 2).phase ≠ .closed ∧ (lawNext.ring 2).phase ≠ .closed := by
  refine ⟨fun r => ?_, lawState_step, by decide +kernel⟩
  unfold Numbered
  refine ⟨?_, fun h => ?_, ?_⟩
  · revert r; decide +kernel
  · have hr : r = 2 := by revert r; decide +kernel
    subst hr
    exact ⟨_, rfl, by decide +kernel⟩
  · revert r; decide +kernel

theorem lawState_belonging : BelongingLaw lawState := by
  refine ⟨fun c x h => ?_, fun c d x y hc hd _ => ?_, fun c x r h hr => ?_, ?_, ?_⟩
  · obtain ⟨rfl, rfl⟩ := lawState_ctx c x h
    exact ⟨_, 1, rfl, rfl, fun r hr => by cases hr; rfl⟩
  · rw [(lawState_ctx c x hc).1, (lawState_ctx d y hd).1]
  · obtain ⟨rfl, rfl⟩ := lawState_ctx c x h
    cases hr
    decide +kernel
  · decide +kernel
  · decide +kernel

theorem witness_EveryStepKeepsTheLiveSet : LiveLaw lawState ∧ BelongingLaw lawState ∧ step lawState = .next lawNext :=
  ⟨lawState_live, lawState_belonging, lawState_step⟩

theorem witness_EveryRequestStandsInOnePlace :
    TrafficLaw lawState ∧ BelongingLaw lawState ∧ step lawState = .next lawNext :=
  ⟨by unfold TrafficLaw; decide +kernel, lawState_belonging, lawState_step⟩

/-- The report of record 41 releases its context in the step. -/
theorem witness_WriteAheadLaw :
    let s := { lawState with pending := [.durabilityReport 1 40], reports := [⟨1, 40⟩] }
    ∃ t y, step s = .next t ∧ t.ctx 1 = some y ∧ y.phase = .forwarded ∧ y.stopped = false :=
  ⟨_, _, rfl, rfl, by decide +kernel, by decide +kernel⟩

theorem witness_ActsStayInTheirRing :
    waits lawState [8, 1] 8 1 = true ∧
      exec .checkpoint (sent lawState [8, 1]) = .next (after .checkpoint (sent lawState [8, 1])) ∧
      (Owner.checkpointMark 2).ring? = some 2 ∧ (Owner.headerWrite 1).ctx? = some 1 ∧
      (lawState.ctx 1).bind (·.ring) = some 1 ∧ Instr.responseReturn ≠ .deviceReset :=
  ⟨by decide +kernel, rfl, by decide +kernel, by decide +kernel, by decide +kernel, by decide⟩

end Sys2Proof.Tests
end

/-! READ_REGION (R31): what its record's index names, what its result's bytes read back as (R182), and the answers. -/

namespace Sys2Proof.Machine

/-! ### Runs of little-endian numbers -/

/-- The number written first in a record reads back there, when it fits its bytes. -/
theorem fieldAt_leBytes_append (n v : Nat) (ys : List Byte) (h : v < 256 ^ n) : fieldAt (leBytes n v ++ ys) 0 n = v := by
  have front := fieldAt_append_left (leBytes n v) ys
  rwa [leBytes_length, leNat_leBytes, Nat.mod_eq_of_lt h] at front

/-- A field behind the number written first in a record is read in what follows it. -/
theorem fieldAt_leBytes_append_right (n v : Nat) (ys : List Byte) (off k : Nat) :
    fieldAt (leBytes n v ++ ys) (n + off) k = fieldAt ys off k := by
  rw [fieldAt_append_right _ _ _ _ (by simp), leBytes_length, Nat.add_sub_cancel_left]

/-- The byte written first in a record reads back there. -/
theorem byteAt_leBytes_append (v : Nat) (ys : List Byte) (h : v < 256) : byteAt (leBytes 1 v ++ ys) 0 = v := by
  rw [byteAt_append_left _ _ _ (by simp), byteAt_leBytes_one, Nat.mod_eq_of_lt h]

/-- A byte behind the one written first in a record is read in what follows it. -/
theorem byteAt_leBytes_append_right (v : Nat) (ys : List Byte) (off : Nat) :
    byteAt (leBytes 1 v ++ ys) (1 + off) = byteAt ys off := by
  rw [byteAt_append_right _ _ _ (by simp), leBytes_length, Nat.add_sub_cancel_left]

/-! ### The result of READ_REGION, bytes 4 to 20 of the response (R182) -/

theorem flagBit_lt (b : Bool) : flagBit b < 256 := by cases b <;> decide

theorem RegionClass.code_lt (c : RegionClass) : c.code < 256 := by cases c <;> decide

section
variable (k : Fin 12) (g : Region)

@[simp] theorem regionResult_length : (regionResult k g).length = 17 := by simp [regionResult]

/-- The fields of the result in their order, each before the rest of the record. -/
theorem regionResult_eq : regionResult k g =
    leBytes 1 k.val ++ (leBytes 1 (flagBit g.enable) ++ (leBytes 1 g.cls.code ++ (leBytes 1 g.ring.val ++
      (leBytes 5 g.base.toNat ++ (leBytes 3 0 ++ (leBytes 5 g.mask.toNat ++ [])))))) := by
  simp [regionResult]

theorem regionResult_index : byteAt (regionResult k g) 0 = k.val := by
  rw [regionResult_eq, byteAt_leBytes_append _ _ (by omega)]

theorem regionResult_enable : byteAt (regionResult k g) 1 = flagBit g.enable := by
  rw [regionResult_eq, byteAt_leBytes_append_right _ _ 0, byteAt_leBytes_append _ _ (flagBit_lt _)]

theorem regionResult_cls : byteAt (regionResult k g) 2 = g.cls.code := by
  rw [regionResult_eq, byteAt_leBytes_append_right _ _ 1, byteAt_leBytes_append_right _ _ 0,
    byteAt_leBytes_append _ _ g.cls.code_lt]

theorem regionResult_ring : byteAt (regionResult k g) 3 = g.ring.val := by
  rw [regionResult_eq, byteAt_leBytes_append_right _ _ 2, byteAt_leBytes_append_right _ _ 1,
    byteAt_leBytes_append_right _ _ 0, byteAt_leBytes_append _ _ (by omega)]

/-- Behind the four single bytes stand the two addresses, with three zero bytes between them. -/
theorem fieldAt_regionResult (off n : Nat) : fieldAt (regionResult k g) (1 + (1 + (1 + (1 + off)))) n =
    fieldAt (leBytes 5 g.base.toNat ++ (leBytes 3 0 ++ (leBytes 5 g.mask.toNat ++ []))) off n := by
  simp only [regionResult_eq, fieldAt_leBytes_append_right]

theorem regionResult_base : fieldAt (regionResult k g) 4 5 = g.base.toNat := by
  rw [fieldAt_regionResult k g 0, fieldAt_leBytes_append _ _ _ g.base.isLt]

theorem regionResult_mask : fieldAt (regionResult k g) 12 5 = g.mask.toNat := by
  rw [fieldAt_regionResult k g 8, fieldAt_leBytes_append_right _ _ _ 3, fieldAt_leBytes_append_right _ _ _ 0,
    fieldAt_leBytes_append _ _ _ g.mask.isLt]

end

/-! ### The index of the record, and the classifier's answer (R31) -/

theorem regionIndexOf_some (rec : List Byte) (k : Fin 12) (h : byteAt rec 4 = k.val) : regionIndexOf rec = some k := by
  simp [regionIndexOf, h]

theorem regionIndexOf_none (rec : List Byte) (h : 11 < byteAt rec 4) : regionIndexOf rec = none := by
  simp only [regionIndexOf, dite_eq_right_iff]
  omega

theorem readRegionOwner_bad_index (r : RingId) (rec : List Byte) (s : State) (h : 11 < byteAt rec 4) :
    readRegionOwner r rec s = answer .badValue s := by
  simp [readRegionOwner, regionIndexOf_none rec h]

theorem readRegionOwner_index (r : RingId) (rec : List Byte) (s : State) (k : Fin 12) (h : byteAt rec 4 = k.val) :
    readRegionOwner r rec s = { status := .done, result := regionResult k (s.region k), state := s } := by
  simp [readRegionOwner, regionIndexOf_some rec k h]

/-! ### The command -/

section
variable (s : State) (part : CommandPart) (i : SlotId) (rec : List Byte) (hs : s.inReset = false)
  (hat : s.commandAt part = some (i, rec)) (hcode : byteAt rec 0 = 0x03)

include hs in
/-- Outside the device reset the command is what the command unit makes of it with the classifier as its owner. -/
theorem exec_readRegion : exec (.readRegion part) s = .next (s.execute part .readRegion readRegionOwner) :=
  running_eq s _ hs

include hcode in
theorem commandOf_readRegion : commandOf (byteAt rec 0) = some .readRegion := by rw [hcode]; rfl

include hs hat hcode

/-- The command unit refuses a ring field above 3 before the classifier sees the command (R171). -/
theorem exec_readRegion_bad_ring (h : 3 < byteAt rec 1) :
    exec (.readRegion part) s = .next (s.answerSlot i rec .badValue []) := by
  rw [exec_readRegion s part hs,
    execute_bad_ring s part i rec _ _ hat (commandOf_readRegion rec hcode) (ringOf_none rec h)]

/-- With a ring field from 0 to 3 the classifier answers, by the index alone. -/
theorem exec_readRegion_owner (h : byteAt rec 1 ≤ 3) : ∃ r, exec (.readRegion part) s =
    .next ((readRegionOwner r rec s).state.answerSlot i rec (readRegionOwner r rec s).status
      (readRegionOwner r rec s).result) := by
  obtain ⟨r, hr⟩ : ∃ r : RingId, byteAt rec 1 = r.val := ⟨⟨_, Nat.lt_succ_of_le h⟩, rfl⟩
  refine ⟨r, ?_⟩
  rw [exec_readRegion s part hs,
    execute_eq s part i rec _ _ r hat (commandOf_readRegion rec hcode) (ringOf_some rec r hr)]

theorem exec_readRegion_bad_index (hr : byteAt rec 1 ≤ 3) (h : 11 < byteAt rec 4) :
    exec (.readRegion part) s = .next (s.answerSlot i rec .badValue []) := by
  obtain ⟨r, hexec⟩ := exec_readRegion_owner s part i rec hs hat hcode hr
  rw [hexec, readRegionOwner_bad_index r rec s h]
  rfl

theorem exec_readRegion_done (hr : byteAt rec 1 ≤ 3) (k : Fin 12) (h : byteAt rec 4 = k.val) :
    exec (.readRegion part) s = .next (s.answerSlot i rec .done (regionResult k (s.region k))) := by
  obtain ⟨r, hexec⟩ := exec_readRegion_owner s part i rec hs hat hcode hr
  rw [hexec, readRegionOwner_index r rec s k h]

end

/-- Settles O13: the answers by the ring field and the index, and the result read back field by field. -/
theorem readRegionReturnsTheEntry : Obligations.ReadRegionReturnsTheEntry := by
  intro s part i rec hs hat hcode
  refine ⟨fun hbad => ?_, fun k hring hindex => ?_⟩
  · rcases Nat.lt_or_ge 3 (byteAt rec 1) with hring | hring
    · exact exec_readRegion_bad_ring s part i rec hs hat hcode hring
    · exact exec_readRegion_bad_index s part i rec hs hat hcode hring (hbad.resolve_left (by omega))
  · refine ⟨regionResult k (s.region k), exec_readRegion_done s part i rec hs hat hcode hring k hindex,
      regionResult_length .., regionResult_index .., regionResult_enable .., ?_, regionResult_ring ..,
      regionResult_base .., regionResult_mask ..⟩
    rw [regionResult_cls]
    cases (s.region k).cls <;> rfl

end Sys2Proof.Machine

/-! The host port's answers before the classifier: the reused tag (R155) and the illegal request (R156). -/

namespace Sys2Proof.Machine

/-! ### The fields of an event record that name a ring and a host tag (R176, R184) -/

theorem EventBody.ringField_lt (b : EventBody) : b.ringField < 256 := by
  cases b <;> simp only [EventBody.ringField] <;> omega

theorem EventBody.tagField_lt (b : EventBody) : b.tagField < 256 := by
  cases b <;> simp only [EventBody.tagField] <;> omega

/-- The fields of the record in their order, each before the rest of the record. -/
theorem eventRecord_eq (e : Event) : eventRecord e =
    leBytes 1 e.number.toNat ++ (leBytes 1 e.body.kindCode ++ (leBytes 1 e.body.ringField ++
      (leBytes 1 e.body.causeField ++ ((leBytes 4 e.body.epochField ++ leBytes 4 e.body.countField) ++
        (leBytes 1 e.body.tagField ++ leBytes 3 0))))) := by
  simp [eventRecord]

theorem eventRecord_ringField (e : Event) : byteAt (eventRecord e) 2 = e.body.ringField := by
  rw [eventRecord_eq, byteAt_leBytes_append_right _ _ 1, byteAt_leBytes_append_right _ _ 0,
    byteAt_leBytes_append _ _ e.body.ringField_lt]

theorem eventRecord_tagField (e : Event) : byteAt (eventRecord e) 12 = e.body.tagField := by
  have epochAndCount : (leBytes 4 e.body.epochField ++ leBytes 4 e.body.countField).length = 8 := by simp
  rw [eventRecord_eq, byteAt_leBytes_append_right _ _ 11, byteAt_leBytes_append_right _ _ 10,
    byteAt_leBytes_append_right _ _ 9, byteAt_leBytes_append_right _ _ 8,
    byteAt_append_right _ _ _ epochAndCount.le, epochAndCount, byteAt_leBytes_append _ _ e.body.tagField_lt]

/-! ### Legal requests (R153, R156) -/

theorem sizeBytes_eq (code : BitVec 3) : sizeBytes code = 8 * 2 ^ code.toNat := Nat.shiftLeft_eq ..

theorem legal_iff (q : HostRequest) :
    q.legal = true ↔ q.size.toNat < 4 ∧ q.addr.toNat % (8 * 2 ^ q.size.toNat) = 0 := by
  simp [HostRequest.legal, sizeBytes_eq]

theorem legal_eq_false (q : HostRequest) (h : 4 ≤ q.size.toNat ∨ q.addr.toNat % (8 * 2 ^ q.size.toNat) ≠ 0) :
    q.legal = false := by
  rw [Bool.eq_false_iff, Ne, legal_iff]
  omega

/-- An aligned run of `n` addresses lies within one line when `n` divides the line. -/
theorem line_of_aligned (a n : Nat) (hn : n ∣ 64) (ha : n ∣ a) : a / 64 = (a + n - 1) / 64 := by
  have n_pos : 0 < n := Nat.pos_of_dvd_of_pos hn (by omega)
  obtain ⟨k, hk⟩ := hn
  obtain ⟨j, rfl⟩ := ha
  have last : (n * j + n - 1) / n = j := by
    rw [Nat.add_sub_assoc n_pos, Nat.mul_add_div n_pos, Nat.div_eq_of_lt (by omega), Nat.add_zero]
  rw [hk, ← Nat.div_div_eq_div_mul, ← Nat.div_div_eq_div_mul, last, Nat.mul_div_cancel_left j n_pos]

/-- Each of the four sizes divides the line of 64 bytes. -/
theorem size_dvd_line (k : Nat) (h : k < 4) : 8 * 2 ^ k ∣ 64 :=
  Nat.mul_dvd_mul_left 8 (Nat.pow_dvd_pow 2 (Nat.le_of_lt_succ h))

/-! ### The taking of a request (R154) -/

theorem hostReady_eq_true (s : State) (hs : s.inReset = false) (hold : s.hold.length < 16)
    (forward : s.forward.length < 4) (waiting : ∀ d ∈ s.decided, d.source ≠ .classifier) : s.hostReady = true := by
  simpa [State.hostReady, hs, hold, forward] using waiting

theorem takeRequest_reused (s : State) (q : HostRequest) (ready : s.hostReady = true) (used : s.tagEntry q.tag ≠ none) :
    s.takeRequest q = s.raise (.protocol q.tag) := by
  obtain ⟨e, he⟩ := Option.ne_none_iff_exists'.mp used
  simp [State.takeRequest, ready, he]

/-- The answer stands before the mode is looked at. -/
theorem takeRequest_illegal (s : State) (q : HostRequest) (ready : s.hostReady = true) (free : s.tagEntry q.tag = none)
    (illegal : q.legal = false) : s.takeRequest q =
      (s.setTag q.tag (some { kind := q.kind, counted := none, atMemory := false })).respond q.tag .error [] := by
  simp [State.takeRequest, ready, free, illegal]

/-- Outside the device reset the command is the taking of the request. -/
theorem exec_hostRequest (s : State) (q : HostRequest) (hs : s.inReset = false) :
    exec (.hostRequest q) s = .next (s.takeRequest q) :=
  running_eq s _ hs

/-! ### The return of a response (R158) -/

section
variable (s : State) (t : HostTag)

theorem freeCarrier_hostOut : (s.freeCarrier t).hostOut = s.hostOut := by unfold State.freeCarrier; split <;> rfl

theorem freeCarrier_tagEntry (u : HostTag) : (s.freeCarrier t).tagEntry u = s.tagEntry u := by
  unfold State.freeCarrier; split <;> rfl

theorem freeCarrier_ring (r : RingId) : (s.freeCarrier t).ring r = s.ring r := by unfold State.freeCarrier; split <;> rfl

end

/-- A response whose request no ring counts frees its tag and the context that carried it. -/
theorem returnResponse_uncounted (s : State) (p : HostResponse) (ps : List HostResponse) (h : s.ready = p :: ps)
    (uncounted : (s.tagEntry p.tag).bind (·.counted) = none) : s.returnResponse =
      ({ s with ready := ps, hostOut := some p }.setTag p.tag none).freeCarrier p.tag := by
  simp only [State.returnResponse, h, uncounted]

/-- Outside the device reset the command is the return of the response that became ready first. -/
theorem exec_responseReturn (s : State) (hs : s.inReset = false) : exec .responseReturn s = .next s.returnResponse :=
  running_eq s _ hs

/-- The return of a response whose request no ring counts: it goes out, its tag is free, and every ring is as it was. -/
theorem exec_responseReturn_uncounted (s : State) (p : HostResponse) (ps : List HostResponse) (hs : s.inReset = false)
    (h : s.ready = p :: ps) (uncounted : (s.tagEntry p.tag).bind (·.counted) = none) :
    ∃ u, exec .responseReturn s = .next u ∧ u.hostOut = some p ∧ u.tagEntry p.tag = none ∧ ∀ r, u.ring r = s.ring r := by
  refine ⟨_, exec_responseReturn s hs, ?_⟩
  rw [returnResponse_uncounted s p ps h uncounted]
  exact ⟨freeCarrier_hostOut .., (freeCarrier_tagEntry ..).trans (State.setTag_tagEntry_self ..),
    fun r => freeCarrier_ring ..⟩

/-! ### The statements -/

/-- Settles O44: the illegal request is answered at its taking, and its response is one that no ring counts. -/
theorem illegalRequestIsAnsweredError : Obligations.IllegalRequestIsAnsweredError := by
  refine ⟨fun s q hs hold forward waiting free hillegal => ?_, fun q hsize crosses aligned => ?_⟩
  · have ready := hostReady_eq_true s hs hold forward waiting
    have illegal := legal_eq_false q hillegal
    refine ⟨_, exec_hostRequest s q hs, takeRequest_illegal s q ready free illegal, ?_⟩
    rw [takeRequest_illegal s q ready free illegal]
    refine ⟨by simp, fun empty => exec_responseReturn_uncounted _ ⟨q.tag, .error, []⟩ [] (by simpa) ?_ (by simp)⟩
    simp [State.respond, empty]
  · exact crosses (line_of_aligned _ _ (size_dvd_line _ hsize) (Nat.dvd_of_mod_eq_zero aligned))

/-- Settles O43: the request is discarded at its taking, and the record carries FFh and the reused tag. -/
theorem reusedTagIsDiscarded : Obligations.ReusedTagIsDiscarded := by
  intro s q hs hold forward waiting used
  have ready := hostReady_eq_true s hs hold forward waiting
  refine ⟨?_, eventRecord_ringField _, eventRecord_tagField _, State.raise_tagEntry ..⟩
  rw [exec_hostRequest s q hs, takeRequest_reused s q ready used]

end Sys2Proof.Machine

/-! The NOTIFY output (R178): it reads RESET_N and the event queue alone, and what each act on the queue makes of it. -/

namespace Sys2Proof.Machine

/-! ### What NOTIFY reads -/

section
variable (s : State)

theorem notify_congr (t : State) (sameReset : t.inReset = s.inReset) (sameEvents : t.events = s.events) :
    t.notify = s.notify := by
  simp only [State.notify, sameReset, sameEvents]

theorem notify_of_events (hs : s.inReset = false) (h : s.events ≠ []) : s.notify = true := by
  simpa [State.notify, hs] using h

theorem notify_of_empty (h : s.events = []) : s.notify = false := by
  simp [State.notify, h]

end

/-! ### The act in which the queue takes an event (R175) -/

section
variable (s : State) (b : EventBody)

theorem raise_events_of_room (h : s.events.length < 32) : (s.raise b).events = s.events ++ [⟨s.eventNumber, b⟩] := by
  simp [State.raise, Config.eventPlaces, h]

theorem raise_events_of_full (h : 32 ≤ s.events.length) : (s.raise b).events = s.events := by
  simp [State.raise, Config.eventPlaces, Nat.not_lt.mpr h]

/-- The event has joined the tail, or 32 records have left no room for it. -/
theorem raise_events_ne_nil : (s.raise b).events ≠ [] := by
  rcases Nat.lt_or_ge s.events.length 32 with room | full
  · simp [raise_events_of_room s b room]
  · rw [raise_events_of_full s b full]
    exact List.ne_nil_of_length_pos (by omega)

end

/-! ### A whole EVENT read (R177) -/

section
variable (s : State) (n : Nat)

/-- With the port free and outside the device reset, the head of the queue is taken and delivered in one act. -/
theorem exec_eventRead_whole (hs : s.inReset = false) (free : s.frame = none) (ready : s.frameWait = false) :
    exec (.eventRead (.whole n)) s = .next (s.endFrame s.eventFrame n) := by
  refine (running_eq s _ hs).trans ?_
  simp [State.readFrame, State.whole, free, ready]

/-- An EVENT read of at least the 16 bytes of the record is completed, and removes the record it took. -/
theorem endFrame_eventFrame_events (hn : 16 ≤ n) : (s.endFrame s.eventFrame n).events = s.events.tail := by
  cases h : s.events <;> simp [State.endFrame, State.eventFrame, h, Frame.record, Frame.completed, hn]

end

/-! ### The device reset (R23, R179) -/

/-- The end of the reset lets the management port run again and leaves its queue as it is. -/
theorem leaveReset_events (s : State) (selectLow ckptHigh : Bool) : (s.leaveReset selectLow ckptHigh).events = s.events := by
  unfold State.leaveReset
  split <;> rfl

/-! ### The statement -/

/-- Settles O8: the queue after each act gives the output. -/
theorem notifyFollowsTheEventQueue : Obligations.NotifyFollowsTheEventQueue := by
  refine ⟨fun s => rfl, fun s b hs => ?rises, fun s e hs free ready last => ?falls, fun s b full => ?dropped,
    fun s i w b => ?notDriven, fun s => ?reset⟩
  case rises => exact notify_of_events _ (by simpa using hs) (raise_events_ne_nil s b)
  case falls =>
    refine ⟨notify_of_events s hs (by simp [last]), _, exec_eventRead_whole s 16 hs free ready, notify_of_empty _ ?_⟩
    rw [endFrame_eventFrame_events s 16 le_rfl, last, List.tail_cons]
  case dropped => exact notify_congr _ _ (State.raise_inReset ..) (raise_events_of_full s b full)
  case notDriven => exact ⟨notify_congr _ _ rfl rfl, notify_congr _ _ rfl rfl, notify_congr _ _ rfl rfl⟩
  case reset =>
    have emptied : s.inDeviceReset.events = [] := rfl
    exact ⟨_, rfl, notify_of_empty _ emptied, fun b h =>
      ⟨_, rfl, notify_of_empty _ ((leaveReset_events _ b h).trans emptied)⟩⟩

end Sys2Proof.Machine

/-! What a command can do, said once: every command is a chain of elementary acts. A law that every elementary act keeps
is kept by every command, and an act that only one command can make names that command. -/

namespace Sys2Proof.Machine

/-! ### The moves of one ring controller -/

/-- The two rings agree on every field of which a law speaks, and steer the same host reads. -/
structure Ring.SameBooks (x y : Ring) : Prop where
  config : y.config = x.config
  phase : y.phase = x.phase
  release : y.release = x.release
  produce : y.produce = x.produce
  live : y.live = x.live
  nextSeq : y.nextSeq = x.nextSeq
  epoch : y.epoch = x.epoch
  frontier : y.frontier = x.frontier
  outstanding : y.outstanding = x.outstanding
  touched : y.touched = x.touched
  complete : y.complete = x.complete
  score : y.score = x.score
  highArmed : y.highArmed = x.highArmed
  fullArmed : y.fullArmed = x.fullArmed
  inFlight : y.inFlight = x.inFlight
  timer : y.timer = x.timer
  reason : y.reason = x.reason
  mark : y.mark = x.mark
  cursor : y.cursor = x.cursor
  openMode : y.openMode = x.openMode
  newest : y.newest = x.newest
  walkCell : y.walkCell = x.walkCell
  walkCount : y.walkCount = x.walkCount
  steered : y.steered.map (·.req) = x.steered.map (·.req)

/-- A new score is within its range, or has fallen (R148). -/
def Ring.scoreFits (x : Ring) (n : Nat) : Prop := n ≤ 255 ∨ n ≤ x.score

/-- A reservation is taken in this phase (R11). -/
def Phase.reserves (p : Phase) : Prop :=
  p = .active ∨ p = .checkpointingDrain ∨ p = .rollingDrain ∨ p = .closingDrain

/-- What a ring controller can make of its own state in one move, with the conditions under which it does. The starts of
an open and of a rollback, the move to BROKEN, a ring reset and the changes of the configuration are acts of their own. -/
inductive RingMove (x : Ring) : Ring → Prop
  | books (y : Ring) (h : x.SameBooks y) : RingMove x y
  | scores (n : Nat) (fits : x.scoreFits n)
      (high : 160 ≤ n → 160 ≤ x.score ∨ x.phase = .closed ∨ x.phase = .broken) : RingMove x { x with score := n }
  | startsCheckpoint (reason : CkptReason) (from_ : x.phase = .active ∨ x.phase = .broken ∧ x.score < 160) :
      RingMove x { x with phase := .checkpointingDrain, reason := some reason, markRetry := false, timer := none }
  | startsClose (from_ : x.phase = .active ∨ x.phase = .broken ∧ x.score < 160) :
      RingMove x { x with phase := .closingDrain, timer := none }
  | marksCheckpoint (reason : MarkReason) (released : Nat) (at_ : x.phase = .checkpointingDrain) (more : x.nextSeq ≠ 0)
      (idle : x.inFlight = 0) :
      RingMove x { x.reserveMark (epochAfter x.epoch) reason released with phase := .checkpointingMark }
  | marksRollback (released : Nat) (at_ : x.phase = .rollingRestore) (more : x.nextSeq ≠ 0) :
      RingMove x { x.reserveMark (epochAfter x.epoch) .rollback released with
        phase := .rollingMark, cursor := none, expected := none }
  | marksFresh (at_ : x.phase = .openingDrain) :
      RingMove x { { x with nextSeq := 1, release := 0, produce := 0, live := 0 }.reserveMark 1 .fresh 0 with
        phase := .openingMark }
  | restores (cell : Nat) (seq : Seq) (at_ : x.phase = .rollingDrain) (idle : x.inFlight = 0) :
      RingMove x { x with phase := .rollingRestore, cursor := some cell, expected := some seq }
  | stepsBack (cell : Nat) (at_ : x.phase = .rollingRestore) : RingMove x (x.recordRestored cell)
  | searches (at_ : x.phase = .openingDrain) :
      RingMove x { x with phase := .openingScan, scanPart := some .search }
  | finds (m : NewestMark) (reads : Nat) (at_ : x.phase = .openingScan) (valid : m.epoch ≠ 0) :
      RingMove x { x with newest := some m, scanReads := reads }
  | walks (part : Option ScanPart) (cell n : Nat) (at_ : x.phase = .openingScan) (room : n + 2 < x.config.cells) :
      RingMove x { x with
        scanPart := part, walkCell := some cell, walkCount := n, scanReads := 1, walkHeader := none }
  | recovers (m : NewestMark) (n : Nat) (at_ : x.phase = .openingScan) (found : x.newest = some m)
      (room : n = 0 ∨ (x.walkCell ≠ none ∧ n ≤ x.walkCount + 1)) :
      RingMove x { x.scanReset.activated with
        release := m.cell, live := n + 1, produce := (m.cell + (n + 1)) % x.config.cells,
        nextSeq := m.seq + BitVec.ofNat 64 (n + 1), frontier := m.seq + BitVec.ofNat 64 n, epoch := m.epoch,
        outstanding := [], touched := [], complete := false, highArmed := true, fullArmed := true }
  | completesCheckpoint (m : Mark) (at_ : x.phase = .checkpointingMark) (held : x.mark = some m) :
      RingMove x { (x.newEpoch m).activated with reason := none }
  | completesRollback (m : Mark) (at_ : x.phase = .rollingMark) (held : x.mark = some m) :
      RingMove x { (x.newEpoch m).activated with restored := 0 }
  | completesFresh (m : Mark) (at_ : x.phase = .openingMark) (held : x.mark = some m) :
      RingMove x { (x.newEpoch m).activated with openMode := none }
  | failsOpen (n : Nat) (at_ : x.phase.state = .opening) (fits : x.scoreFits n) :
      RingMove x { { x with score := n }.zeroed.scanReset with
        phase := .closed, outstanding := [], touched := [], complete := false, highArmed := false, fullArmed := false,
        timer := none, markRetry := false, mark := none }
  | closes (at_ : x.phase = .closingDrain) (idle : x.inFlight = 0) :
      RingMove x { x with
        phase := .closed, outstanding := [], touched := [], complete := false, highArmed := false, fullArmed := false,
        timer := none }
  | grants (line : Addr) (at_ : x.phase.reserves) (more : x.nextSeq ≠ 0) (room : x.live + 2 ≤ x.config.cells) :
      RingMove x (x.grantRecord line)
  | disarmsHigh : RingMove x { x with highArmed := false }
  | disarmsFull : RingMove x { x with fullArmed := false }
  | takesReport (seq : Seq) : RingMove x (x.takeReport seq)

/-! ### The elementary acts of the bridge -/

/-- The two states agree on everything of which a law speaks. -/
structure State.SameBooks (s t : State) : Prop where
  mode : t.mode = s.mode
  regions : t.regions = s.regions
  rings : t.rings = s.rings
  contexts : t.contexts = s.contexts
  hold : t.hold = s.hold
  tags : t.tags = s.tags
  ready : t.ready = s.ready
  forward : t.forward = s.forward
  decided : t.decided = s.decided
  slots : t.slots = s.slots
  loadOrder : t.loadOrder = s.loadOrder
  events : t.events = s.events
  frame : t.frame = s.frame

/-- A context has neither forwarded nor answered its host write. -/
def CtxPhase.holds (p : CtxPhase) : Prop := p ≠ .forwarded ∧ p ≠ .answering

/-- What a write context can become while its host write stays with it, or has left it before: it keeps its request and
its ring, and journaling that has stopped stays stopped. -/
structure Context.GoesOn (y z : Context) : Prop where
  req : z.req = y.req
  ring : z.ring = y.ring
  stopped : y.stopped = true → z.stopped = true
  phase : (z.phase = y.phase ∧ z.reserved = y.reserved) ∨ (y.phase.holds ∧ z.phase.holds)

/-- The ways in which a request in nobody's place gets one: it is answered, or decided for forwarding, counted for a ring
or not, or steered by a ROLLING ring, or taken by a free write context of an ACTIVE ring. -/
inductive Placed (s : State) (q : HostRequest) : State → Prop
  | answered (st : HostStatus) (data : List Byte) : Placed s q (s.respond q.tag st data)
  | decided (src : Source) : Placed s q (s.decide ⟨src, q⟩)
  | counted (src : Source) (r : RingId) : Placed s q ((s.countWrite r q.tag).decide ⟨src, q⟩)
  | steered (r : RingId) (cell : Nat) :
      Placed s q (s.setRing r { s.ring r with
        steered := (s.ring r).steered ++ [{ req := q, cell, header := none }] })
  | context (k : CtxId) (r : RingId) (free : s.ctx k = none) (active : (s.ring r).phase = .active) :
      Placed s q ((s.setCtx k (some
        { req := q, ring := some r, phase := .preRead, image := none, reserved := none, retryUsed := false,
          access := .waiting, stopped := false })).countWrite r q.tag)

/-- The ways in which a read that is no longer steered goes on: it is answered, or decided for forwarding (R122, R124). -/
inductive Passed (s : State) (q : HostRequest) : State → Prop
  | answered (st : HostStatus) (data : List Byte) : Passed s q (s.respond q.tag st data)
  | decided (src : Source) : Passed s q (s.decide ⟨src, q⟩)

theorem Passed.placed {s u : State} {q : HostRequest} (h : Passed s q u) : Placed s q u := by
  cases h with
  | answered st data => exact .answered st data
  | decided src => exact .decided src

/-- The tag of a request that has just been taken (R157). -/
def State.enrol (s : State) (q : HostRequest) : State :=
  s.setTag q.tag (some { kind := q.kind, counted := none, atMemory := false })

/-- An entry that is held for its ring is a write, and its ring is neither OPENING nor ROLLING (R82). -/
def State.mayHold (s : State) (e : HoldEntry) : Prop :=
  e.reason ≠ .line → e.req.kind = .write ∧
    ∀ r, e.ring = some r → (s.ring r).phase.state ≠ .opening ∧ (s.ring r).phase.state ≠ .rolling

/-- What the return of a response does before the drain of its ring is tested (R54, R57, R158). -/
def State.afterReturn (s : State) (p : HostResponse) (ps : List HostResponse) : State :=
  let s1 := { s with ready := ps, hostOut := some p }.setTag p.tag none
  match (s.tagEntry p.tag).bind (·.counted) with
  | none => s1.freeCarrier p.tag
  | some r => (s1.modRing r fun x => { x with inFlight := x.inFlight - 1 }).freeCarrier p.tag

/-- A ring that breaks: as it was but for its score, or, with a mark being written, with the mark withdrawn. In a MARK
sub-phase it breaks with the mark still reserved only for the sake of a write context that belonged to it when the command
`s0` met began. -/
inductive BreakFrom (s0 : State) (r : RingId) (x : Ring) : Ring → Prop
  | plain (n : Nat) (fits : x.scoreFits n)
      (noMark : x.phase.sub = .mark → (s0.ring r).phase.sub = .mark ∧ ∃ k y, s0.ctx k = some y ∧ y.ring = some r) :
      BreakFrom s0 r x { x with score := n }
  | withdrawn (n : Nat) (fits : x.scoreFits n) (at_ : x.phase = .checkpointingMark ∨ x.phase = .rollingMark) :
      BreakFrom s0 r x { x with score := n }.withdrawMark

/-- The elementary acts of which the command `c`, begun in the state `s0`, is made. -/
inductive Act (c : Instr) (s0 : State) (s : State) : State → Prop
  | quiet (t : State) (h : s.SameBooks t) : Act c s0 s t
  | raises (b : EventBody) : Act c s0 s (s.raise b)
  | time (n : Nat) : Act c s0 s (s.passTime n)
  | ring (r : RingId) (y : Ring) (h : RingMove (s.ring r) y) : Act c s0 s (s.setRing r y)
  | opens (r : RingId) (mode : OpenMode) (run : s.mode = .run) (first : (s0.ring r).phase = .closed)
      (from_ : (s.ring r).phase = .closed) (cells : (s.ring r).config.cells ≠ 0) (score : (s.ring r).score < 160)
      (held : ∀ e ∈ s.hold, e.belongsTo r = false) :
      Act c s0 s (s.setRing r { (s.ring r).zeroed.scanReset with
        phase := .openingDrain, openMode := some mode, markRetry := false, outstanding := [] })
  | rollsBack (r : RingId) (from_ : (s.ring r).phase = .active) (held : ∀ e ∈ s.hold, e.belongsTo r = false) :
      Act c s0 s (s.setRing r { s.ring r with
        phase := .rollingDrain, cursor := none, expected := none, restored := 0, restoreRetry := false,
        markRetry := false, timer := none })
  | configures (r : RingId) (cfg : RingConfig) (by_ : ∃ p, c = .configureRing p) (at_ : (s.ring r).phase = .closed)
      (cells : cfg.cells = 0 ∨ 16 ≤ cfg.cells) :
      Act c s0 s (s.setRing r { (s.ring r).zeroed with config := cfg })
  | setsInterval (r : RingId) (code : Fin 6) (by_ : ∃ p, c = .setInterval p) :
      Act c s0 s (s.setRing r { s.ring r with
        config := { (s.ring r).config with interval := code }
        timer := if (s.ring r).phase = .active then intervalTime code else (s.ring r).timer })
  | breaks (r : RingId) (x : Ring) (cause : Cause) (may : (s.ring r).phase.mayBreak = true)
      (h : BreakFrom s0 r (s.ring r) x) : Act c s0 s ((s.setRing r x).becomeBroken r cause)
  | resets (r : RingId) : Act c s0 s (s.resetRing r)
  | forwards (k : CtxId) : Act c s0 s (s.forwardCtx k)
  | answersCtx (k : CtxId) (h : ∀ y, s.ctx k = some y → y.phase.holds) : Act c s0 s (s.answerCtx k)
  | context (k : CtxId) (y z : Context) (held : s.ctx k = some y) (h : y.GoesOn z) : Act c s0 s (s.setCtx k (some z))
  | rises (r : RingId) (by_ : ∃ q, c = .durabilityReport r q) : Act c s0 s (s.frontierRise r)
  | retries (r : RingId) : Act c s0 s (s.retryHeld r)
  | arrives (q : HostRequest) (u : State) (free : s.tagEntry q.tag = none) (h : Placed (s.enrol q) q u) : Act c s0 s u
  | arrivesHeld (e : HoldEntry) (free : s.tagEntry e.req.tag = none) (room : s.hold.length < 16) (h : s.mayHold e) :
      Act c s0 s { s.enrol e.req with hold := s.hold ++ [e] }
  | leaves (ahead : List HoldEntry) (e : HoldEntry) (es : List HoldEntry) (u : State) (at_ : s.hold = ahead ++ e :: es)
      (h : Placed { s with hold := ahead ++ es } e.req u) : Act c s0 s u
  | stays (ahead : List HoldEntry) (e e' : HoldEntry) (es : List HoldEntry) (at_ : s.hold = ahead ++ e :: es)
      (req : e'.req = e.req) (h : s.mayHold e → s.mayHold e') : Act c s0 s { s with hold := ahead ++ e' :: es }
  | steerEnds (r : RingId) (q : Steered) (u : State) (held : q ∈ (s.ring r).steered)
      (h : Passed (s.setRing r { s.ring r with
        steered := (s.ring r).steered.filter fun p => p.req.tag != q.req.tag }) q.req u) : Act c s0 s u
  | returns (p : HostResponse) (ps : List HostResponse) (h : s.ready = p :: ps) : Act c s0 s (s.afterReturn p ps)
  | issues : Act c s0 s s.issueHost
  | memory (t : HostTag) (st : MemStatus) (data : List Byte) : Act c s0 s (s.hostMemoryResponse t st data)
  | loads (i : SlotId) (rec : List Byte) (empty : s.slot i = .empty) (len : rec.length = 32) :
      Act c s0 s { s.setSlot i (.loaded rec) with loadOrder := s.loadOrder ++ [i] }
  | takes (i : SlotId) (rec : List Byte) (next : s.nextCommand = some (i, rec)) :
      Act c s0 s { s.setSlot i (.executing rec) with loadOrder := s.loadOrder.tail }
  | answers (i : SlotId) (rec : List Byte) (st : Status) (result : List Byte)
      (held : s.slot i = .loaded rec ∨ s.slot i = .executing rec) : Act c s0 s (s.answerSlot i rec st result)
  | takesFrame (f : Frame) (free : s.frame = none) (h : ∀ i rec, f = .response i rec true → s.slot i = .answered rec) :
      Act c s0 s { s with frame := some f }
  | endsFrame : Act c s0 s { s with frame := none }
  | collects (i : SlotId) (rec : List Byte) (h : s.frame = some (.response i rec true) ∨ s.slot i = .answered rec) :
      Act c s0 s { s.setSlot i .empty with frame := none }
  | reads (by_ : ∃ p, c = .eventRead p) : Act c s0 s { s with events := s.events.tail }
  | mode (m : Mode) (by_ : ∃ p, c = .setMode p) (h : m = .config → ∀ r, (s.ring r).phase = .closed) :
      Act c s0 s { s with mode := m }
  | region (i : Fin 12) (g : Region) (by_ : ∃ p, c = .writeRegion p) : Act c s0 s (s.setRegion i g)
  | device (by_ : c = .deviceReset) : Act c s0 s s.inDeviceReset

/-- A chain of elementary acts. -/
def Acts (c : Instr) (s0 : State) : State → State → Prop := Relation.ReflTransGen (Act c s0)

/-- A property that each elementary act keeps is kept by a chain of them. -/
theorem Acts.keeps {c : Instr} {s0 s t : State} {P : State → Prop} (h : Acts c s0 s t)
    (keep : ∀ u v, Act c s0 u v → P u → P v) (hs : P s) : P t := by
  induction h with
  | refl => exact hs
  | tail _ hact ih => exact keep _ _ hact ih

end Sys2Proof.Machine

/-! Every shared operation of the model as a chain of elementary acts, and from these every command. -/

namespace Sys2Proof.Machine

theorem Ring.SameBooks.refl (x : Ring) : x.SameBooks x := by constructor <;> rfl

namespace Acts

variable {c : Instr} {s0 s t u : State} {r : RingId}

theorem refl : Acts c s0 s s := Relation.ReflTransGen.refl

theorem trans (h : Acts c s0 s t) (k : Acts c s0 t u) : Acts c s0 s u := Relation.ReflTransGen.trans h k

theorem one (h : Act c s0 s t) : Acts c s0 s t := Relation.ReflTransGen.single h

/-- One more act at the end of a chain. -/
theorem snoc (h : Acts c s0 s t) (k : Act c s0 t u) : Acts c s0 s u := Relation.ReflTransGen.tail h k

theorem quiet (h : s.SameBooks t) : Acts c s0 s t := one (.quiet t h)

theorem move {y : Ring} (h : RingMove (s.ring r) y) : Acts c s0 s (s.setRing r y) := one (.ring r y h)

end Acts

/-! ### Acts of which no law speaks -/

section
variable (s : State)

theorem askPass_sameBooks : s.SameBooks s.askPass := by constructor <;> rfl

theorem requestJournal_sameBooks (a : Access) : s.SameBooks (s.requestJournal a) := by constructor <;> rfl

theorem requestService_sameBooks (a : Access) : s.SameBooks (s.requestService a) := by constructor <;> rfl

theorem withdraw_sameBooks (p : Owner → Bool) : s.SameBooks (s.withdraw p) := by constructor <;> rfl

theorem orphan_sameBooks (p : Owner → Bool) : s.SameBooks (s.orphan p) := by constructor <;> rfl

theorem setOwnTag_sameBooks (o : OwnTag) (z : OwnTagState) : s.SameBooks (s.setOwnTag o z) := by constructor <;> rfl

theorem setRejected_sameBooks (i : SlotId) (b : Bool) : s.SameBooks (s.setRejected i b) := by constructor <;> rfl

theorem afterOrder_sameBooks {α : Type} (xs : List α) : s.SameBooks (s.afterOrder xs) := by constructor <;> rfl

theorem requestMark_sameBooks (r : RingId) (o : Owner) : s.SameBooks (s.requestMark r o) := by
  unfold State.requestMark
  simp only
  split
  · constructor <;> rfl
  · exact requestJournal_sameBooks ..

end

section
variable {c : Instr} {s0 : State} (s : State) (r : RingId)

theorem askPass_acts : Acts c s0 s s.askPass := .quiet (askPass_sameBooks s)

theorem raise_acts (b : EventBody) : Acts c s0 s (s.raise b) := .one (.raises b)

theorem requestJournal_acts (a : Access) : Acts c s0 s (s.requestJournal a) := .quiet (requestJournal_sameBooks s a)

theorem requestService_acts (a : Access) : Acts c s0 s (s.requestService a) := .quiet (requestService_sameBooks s a)

theorem requestMark_acts (o : Owner) : Acts c s0 s (s.requestMark r o) := .quiet (requestMark_sameBooks s r o)

/-- A ring's own bookkeeping. -/
theorem books_acts (y : Ring) (h : (s.ring r).SameBooks y) : Acts c s0 s (s.setRing r y) := .move (.books y h)

/-! ### Breaking and failing -/

/-- A ring breaks as it stands. -/
theorem breakRing_acts (cause : Cause)
    (noMark : (s.ring r).phase.sub = .mark →
      (s0.ring r).phase.sub = .mark ∧ ∃ k y, s0.ctx k = some y ∧ y.ring = some r) :
    Acts c s0 s (s.breakRing r cause) := by
  unfold State.breakRing
  split
  · next may =>
    have hbreak := Act.breaks (c := c) r _ cause may (.plain (s.ring r).score (.inr le_rfl) noMark)
    rw [show ({ s.ring r with score := (s.ring r).score } : Ring) = s.ring r from rfl, State.setRing_ring_eta] at hbreak
    exact .one hbreak
  · exact .refl

/-- A ring breaks with a new score, outside a MARK sub-phase (R151). -/
theorem breakRing_scored_acts (n : Nat) (cause : Cause) (fits : (s.ring r).scoreFits n)
    (may : (s.ring r).phase.mayBreak = true) (noMark : (s.ring r).phase.sub ≠ .mark) :
    Acts c s0 s ((s.setRing r { s.ring r with score := n }).breakRing r cause) := by
  simp only [State.breakRing, State.setRing_ring_self, may, if_true]
  exact .one (.breaks r _ cause may (.plain n fits fun h => absurd h noMark))

theorem withdrawMark_phase (x : Ring) : x.withdrawMark.phase = x.phase := by
  unfold Ring.withdrawMark
  split <;> rfl

/-- A ring breaks in MARK, its mark withdrawn, with a new score or the score it has (R101, R119, R151). -/
theorem failMark_scored_acts (n : Nat) (cause : Cause) (fits : (s.ring r).scoreFits n)
    (at_ : (s.ring r).phase = .checkpointingMark ∨ (s.ring r).phase = .rollingMark) :
    Acts c s0 s ((s.setRing r { s.ring r with score := n }).failMark r cause) := by
  have may : (s.ring r).phase.mayBreak = true := by rcases at_ with h | h <;> rw [h] <;> rfl
  simp only [State.failMark, State.breakRing, State.modRing_eq, State.setRing_ring_self, withdrawMark_phase, may, if_true,
    State.setRing_setRing]
  exact .one (.breaks r _ cause may (.withdrawn n fits at_))

theorem failMark_acts (cause : Cause) (at_ : (s.ring r).phase = .checkpointingMark ∨ (s.ring r).phase = .rollingMark) :
    Acts c s0 s (s.failMark r cause) := by
  have h := failMark_scored_acts (c := c) (s0 := s0) s r (s.ring r).score cause (.inr le_rfl) at_
  rwa [show ({ s.ring r with score := (s.ring r).score } : Ring) = s.ring r from rfl, State.setRing_ring_eta] at h

/-- An open fails, with a new score (R136, R151). -/
theorem openFail_scored_acts (n : Nat) (cause : Cause) (fits : (s.ring r).scoreFits n)
    (at_ : (s.ring r).phase.state = .opening) :
    Acts c s0 s ((s.setRing r { s.ring r with score := n }).openFail r cause) := by
  simp only [State.openFail, State.modRing_eq, State.setRing_ring_self, State.setRing_setRing]
  exact ((((Acts.move (.failsOpen n at_ fits)).snoc (.quiet _ (withdraw_sameBooks ..))).snoc
    (.quiet _ (orphan_sameBooks ..))).trans (raise_acts ..)).trans (askPass_acts ..)

theorem openFail_acts (cause : Cause) (at_ : (s.ring r).phase.state = .opening) :
    Acts c s0 s (s.openFail r cause) := by
  have h := openFail_scored_acts (c := c) (s0 := s0) s r (s.ring r).score cause (.inr le_rfl) at_
  rwa [show ({ s.ring r with score := (s.ring r).score } : Ring) = s.ring r from rfl, State.setRing_ring_eta] at h

/-! ### The score report -/

theorem scoreAfter_fits (x : Ring) (ok : Bool) : x.scoreFits (scoreAfter x.score ok) := by
  cases ok
  · exact .inl (Nat.min_le_left ..)
  · exact .inr (Nat.sub_le ..)

/-- Outside MARK a ring that may break does so at a score of 160 (R151). -/
theorem scoreFails_breaks (may : (s.ring r).phase.mayBreak = true) (noMark : (s.ring r).phase.sub ≠ .mark) :
    s.scoreFails r = s.breakRing r .score := by
  unfold State.scoreFails
  split <;> simp_all [Phase.mayBreak, Phase.sub]

theorem scoreFails_marks (at_ : (s.ring r).phase = .checkpointingMark ∨ (s.ring r).phase = .rollingMark) :
    s.scoreFails r = s.failMark r .score := by
  unfold State.scoreFails
  split <;> simp_all

theorem scoreFails_opening (at_ : (s.ring r).phase.state = .opening) : s.scoreFails r = s.openFail r .score := by
  unfold State.scoreFails
  split <;> simp_all [Phase.state]

theorem scoreFails_still (at_ : (s.ring r).phase = .closed ∨ (s.ring r).phase = .broken) : s.scoreFails r = s := by
  unfold State.scoreFails
  split <;> simp_all

/-- The four ways in which a ring can meet a score of 160 (R151). -/
theorem Phase.score_cases (p : Phase) : (p.mayBreak = true ∧ p.sub ≠ .mark) ∨ (p = .checkpointingMark ∨ p = .rollingMark) ∨
    p.state = .opening ∨ (p = .closed ∨ p = .broken) := by cases p <;> simp [Phase.mayBreak, Phase.sub, Phase.state]

/-- What a score that reaches 160 does, the new score included (R151). -/
theorem scoreFails_acts (n : Nat) (fits : (s.ring r).scoreFits n) :
    Acts c s0 s ((s.setRing r { s.ring r with score := n }).scoreFails r) := by
  have phase : ((s.setRing r { s.ring r with score := n }).ring r).phase = (s.ring r).phase := by simp
  rcases (s.ring r).phase.score_cases with ⟨may, noMark⟩ | at_ | at_ | at_
  · rw [scoreFails_breaks _ _ (by rwa [phase]) (by rwa [phase])]
    exact breakRing_scored_acts s r n .score fits may noMark
  · rw [scoreFails_marks _ _ (by rwa [phase])]
    exact failMark_scored_acts s r n .score fits at_
  · rw [scoreFails_opening _ _ (by rwa [phase])]
    exact openFail_scored_acts s r n .score fits at_
  · rw [scoreFails_still _ _ (by rwa [phase])]
    exact .move (.scores n fits fun _ => .inr at_)

/-- A report that carries the score over 160 does not carry it over 64 (R148, R150, R151). -/
theorem crosses_failed_not_suspect (old : Nat) (ok : Bool)
    (h : crosses Config.failedScore old (scoreAfter old ok) = true) :
    crosses Config.suspectScore old (scoreAfter old ok) = false := by
  cases ok <;> simp [crosses, scoreAfter, Config.failedScore, Config.suspectScore, Config.failureWeight] at h ⊢ <;> omega

theorem report_acts (ok : Bool) : Acts c s0 s (s.report r ok) := by
  have fits := scoreAfter_fits (s.ring r) ok
  unfold State.report
  simp only [State.modRing_eq]
  split
  · next hfail =>
    simp only [crosses_failed_not_suspect _ _ hfail]
    exact scoreFails_acts s r _ fits
  · next hfail =>
    have scored : Acts c s0 s (s.setRing r { s.ring r with score := scoreAfter (s.ring r).score ok }) := by
      refine .move (.scores _ fits fun high => .inl ?_)
      simp only [crosses, Config.failedScore, Bool.and_eq_true, decide_eq_true_eq, not_and] at hfail
      by_contra low
      exact hfail (by omega) high
    split
    · exact scored.trans (raise_acts ..)
    · exact scored

/-! ### What a report can make of a phase -/

theorem becomeBroken_phase (cause : Cause) : ((s.becomeBroken r cause).ring r).phase = .broken := by
  simp only [State.becomeBroken, State.askPass_ring, State.raise_ring, State.decideAll_ring]
  exact congrArg Ring.phase (State.setRing_ring_self ..)

theorem breakRing_phase (cause : Cause) (may : (s.ring r).phase.mayBreak = true) :
    ((s.breakRing r cause).ring r).phase = .broken := by simp [State.breakRing, may, becomeBroken_phase]

theorem failMark_phase (cause : Cause) (may : (s.ring r).phase.mayBreak = true) :
    ((s.failMark r cause).ring r).phase = .broken := breakRing_phase _ r cause (by simpa [withdrawMark_phase] using may)

theorem openFail_phase (cause : Cause) : ((s.openFail r cause).ring r).phase = .closed := by simp [State.openFail]

theorem scoreFails_phase : ((s.scoreFails r).ring r).phase = (s.ring r).phase ∨
    ((s.scoreFails r).ring r).phase = .broken ∨ ((s.scoreFails r).ring r).phase = .closed := by
  rcases (s.ring r).phase.score_cases with ⟨may, noMark⟩ | at_ | at_ | at_
  · rw [scoreFails_breaks s r may noMark]
    exact .inr (.inl (breakRing_phase s r _ may))
  · rw [scoreFails_marks s r at_]
    exact .inr (.inl (failMark_phase s r _ (by rcases at_ with h | h <;> rw [h] <;> rfl)))
  · rw [scoreFails_opening s r at_]
    exact .inr (.inr (openFail_phase s r _))
  · rw [scoreFails_still s r at_]
    exact .inl rfl

/-- A report leaves its ring in its phase, or the ring has broken or its open has failed (R151). -/
theorem report_phase (ok : Bool) :
    ((s.report r ok).ring r).phase = (s.ring r).phase ∨ ((s.report r ok).ring r).phase = .broken ∨
      ((s.report r ok).ring r).phase = .closed := by
  have raised (b : Bool) (e : EventBody) (u : State) : (if b then u.raise e else u).ring r = u.ring r := by
    split <;> simp
  unfold State.report
  simp only
  split
  · simpa [raised] using scoreFails_phase (if crosses Config.suspectScore (s.ring r).score
      (scoreAfter (s.ring r).score ok) then
        (s.modRing r fun x => { x with score := scoreAfter (s.ring r).score ok }).raise
          (.scoreSuspect r (scoreAfter (s.ring r).score ok))
      else s.modRing r fun x => { x with score := scoreAfter (s.ring r).score ok }) r
  · simp [raised]

end

end Sys2Proof.Machine

/-! Marks, drains, operations and outcomes as chains of elementary acts. -/

namespace Sys2Proof.Machine

section
variable {c : Instr} {s0 : State} (s : State) (r : RingId)

/-! ### The end of a drain (R58) -/

theorem drained_inFlight (h : s.drained r = true) : (s.ring r).inFlight = 0 := by
  simp only [State.drained, Bool.and_eq_true, beq_iff_eq] at h
  exact h.1

theorem exhausted_iff (x : Ring) : x.exhausted = true ↔ x.nextSeq = 0 := by simp [Ring.exhausted]

theorem checkpointMark_acts (at_ : (s.ring r).phase = .checkpointingDrain) (idle : (s.ring r).inFlight = 0) :
    Acts c s0 s (s.checkpointMark r) := by
  unfold State.checkpointMark
  simp only
  split
  · exact breakRing_acts s r _ (by rw [at_]; simp [Phase.sub])
  · next more =>
    rw [exhausted_iff] at more
    exact (Acts.move (.marksCheckpoint _ _ at_ more idle)).trans (requestMark_acts ..)

theorem rollbackMark_acts (at_ : (s.ring r).phase = .rollingRestore) : Acts c s0 s (s.rollbackMark r) := by
  unfold State.rollbackMark
  simp only
  split
  · exact breakRing_acts s r _ (by rw [at_]; simp [Phase.sub])
  · next more =>
    rw [exhausted_iff] at more
    exact (Acts.move (.marksRollback _ at_ more)).trans (requestMark_acts ..)

theorem freshMark_acts (at_ : (s.ring r).phase = .openingDrain) : Acts c s0 s (s.freshMark r) :=
  (Acts.move (.marksFresh at_)).trans (requestMark_acts ..)

theorem restoreEndTest_acts : Acts c s0 s (s.restoreEndTest r) := by
  unfold State.restoreEndTest
  simp only
  split
  · next h =>
    simp only [Bool.and_eq_true, beq_iff_eq] at h
    exact rollbackMark_acts s r h.1.1
  · exact .refl

theorem restoreNext_acts : Acts c s0 s (s.restoreNext r) := by
  unfold State.restoreNext
  simp only
  split
  · exact .refl
  · split
    · exact restoreEndTest_acts s r
    · exact requestService_acts ..

theorem restoreStart_acts (at_ : (s.ring r).phase = .rollingDrain) (idle : (s.ring r).inFlight = 0) :
    Acts c s0 s (s.restoreStart r) :=
  (Acts.move (.restores _ _ at_ idle)).trans (restoreNext_acts ..)

theorem searchNext_acts : Acts c s0 s (s.searchNext r) := by
  unfold State.searchNext
  simp only
  split
  · exact (books_acts s r _ (by constructor <;> rfl)).trans (requestService_acts ..)
  · exact .refl

theorem searchStart_acts (at_ : (s.ring r).phase = .openingDrain) : Acts c s0 s (s.searchStart r) :=
  ((((Acts.move (.searches at_)).trans (searchNext_acts ..)).trans (searchNext_acts ..)).trans
    (searchNext_acts ..)).trans (searchNext_acts ..)

theorem closeComplete_acts (at_ : (s.ring r).phase = .closingDrain) (idle : (s.ring r).inFlight = 0) :
    Acts c s0 s (s.closeComplete r) := by
  refine .trans ?_ (askPass_acts _)
  refine .trans ?_ (raise_acts ..)
  exact (Acts.move (.closes at_ idle)).snoc (.quiet _ (by constructor <;> rfl))

/-- The test of a drain that has not ended, or outside a DRAIN sub-phase, does nothing. -/
theorem drainTest_eq_self (h : s.drained r = false ∨ (s.ring r).phase.sub ≠ .drain) : s.drainTest r = s := by
  unfold State.drainTest
  split
  · split <;> simp_all [Phase.sub]
  · rfl

theorem drainTest_checkpointing (h : s.drained r = true) (at_ : (s.ring r).phase = .checkpointingDrain) :
    s.drainTest r = s.checkpointMark r := by simp [State.drainTest, h, at_]

theorem drainTest_rolling (h : s.drained r = true) (at_ : (s.ring r).phase = .rollingDrain) :
    s.drainTest r = s.restoreStart r := by simp [State.drainTest, h, at_]

theorem drainTest_closing (h : s.drained r = true) (at_ : (s.ring r).phase = .closingDrain) :
    s.drainTest r = s.closeComplete r := by simp [State.drainTest, h, at_]

theorem drainTest_fresh (h : s.drained r = true) (at_ : (s.ring r).phase = .openingDrain)
    (mode : (s.ring r).openMode = some .fresh) : s.drainTest r = s.freshMark r := by simp [State.drainTest, h, at_, mode]

theorem drainTest_recover (h : s.drained r = true) (at_ : (s.ring r).phase = .openingDrain)
    (mode : (s.ring r).openMode = some .recover) : s.drainTest r = s.searchStart r := by
  simp [State.drainTest, h, at_, mode]

theorem drainTest_modeless (at_ : (s.ring r).phase = .openingDrain) (mode : (s.ring r).openMode = none) :
    s.drainTest r = s := by
  unfold State.drainTest
  split <;> simp [at_, mode]

theorem Phase.drain_cases (p : Phase) : p.sub ≠ .drain ∨ p = .openingDrain ∨ p = .checkpointingDrain ∨
    p = .rollingDrain ∨ p = .closingDrain := by cases p <;> simp [Phase.sub]

theorem drainTest_acts : Acts c s0 s (s.drainTest r) := by
  cases hd : s.drained r with
  | false => rw [drainTest_eq_self s r (.inl hd)]; exact .refl
  | true =>
    have idle := drained_inFlight s r hd
    rcases (s.ring r).phase.drain_cases with at_ | at_ | at_ | at_ | at_
    · rw [drainTest_eq_self s r (.inr at_)]; exact .refl
    · cases mode : (s.ring r).openMode with
      | none => rw [drainTest_modeless s r at_ mode]; exact .refl
      | some m => cases m with
        | fresh => rw [drainTest_fresh s r hd at_ mode]; exact freshMark_acts s r at_
        | recover => rw [drainTest_recover s r hd at_ mode]; exact searchStart_acts s r at_
    · rw [drainTest_checkpointing s r hd at_]; exact checkpointMark_acts s r at_ idle
    · rw [drainTest_rolling s r hd at_]; exact restoreStart_acts s r at_ idle
    · rw [drainTest_closing s r hd at_]; exact closeComplete_acts s r at_ idle

/-! ### The recovery scan (R132 to R135) -/

theorem recoverComplete_acts (m : NewestMark) (at_ : (s.ring r).phase = .openingScan)
    (found : (s.ring r).newest = some m)
    (room : (s.ring r).walkCount = 0 ∨ (s.ring r).walkCell ≠ none) :
    Acts c s0 s (s.recoverComplete r m) := by
  refine .trans ?_ (askPass_acts _)
  refine .trans ?_ (raise_acts ..)
  exact .move (.recovers m (s.ring r).walkCount at_ found (room.imp id fun h => ⟨h, Nat.le_succ _⟩))

/-- The walk set to a cell and a count goes on, or stops and completes the open (R134, R135). -/
theorem walkNext_acts (m : NewestMark) (part : Option ScanPart) (cell n reads : Nat) (header : Option (List Byte))
    (at_ : (s.ring r).phase = .openingScan) (found : (s.ring r).newest = some m)
    (room : n = 0 ∨ ((s.ring r).walkCell ≠ none ∧ n ≤ (s.ring r).walkCount + 1)) :
    Acts c s0 s ((s.setRing r { s.ring r with
      scanPart := part, walkCell := some cell, walkCount := n, scanReads := reads, walkHeader := header }).walkNext r) := by
  unfold State.walkNext
  simp only [State.setRing_ring_self]
  split
  · next m' cell' found' walks' =>
    obtain rfl : m = m' := Option.some.inj (found.symm.trans found')
    obtain rfl : cell = cell' := Option.some.inj walks'
    split
    · refine .trans ?_ (askPass_acts _)
      refine .trans ?_ (raise_acts ..)
      simp only [State.setRing_ring_self, State.setRing_setRing]
      exact .move (.recovers m n at_ found room)
    · next more =>
      simp only [ge_iff_le, Bool.or_eq_true, decide_eq_true_eq, not_or, not_le] at more
      rw [State.setRing_setRing]
      exact (Acts.move (.walks part cell n at_ more.1)).trans (requestService_acts ..)
  · next h => exact absurd rfl (h m cell found)

theorem searchEnd_acts (at_ : (s.ring r).phase = .openingScan) : Acts c s0 s (s.searchEnd r) := by
  unfold State.searchEnd
  split
  · exact openFail_acts s r _ (by rw [at_]; rfl)
  · next m found =>
    exact walkNext_acts s r m (some .walk) _ 0 (s.ring r).scanReads (s.ring r).walkHeader at_ found (.inl rfl)

/-! ### Starting operations (R88, R106, R128, R138) -/

/-- The held entries of the ring have left (R82). -/
theorem retryHeld_hold : (s.retryHeld r).hold = s.hold.filter fun e => !e.belongsTo r := by
  simp only [State.retryHeld, Laws.foldl_respond_eq]

theorem retryHeld_ring (q : RingId) : (s.retryHeld r).ring q = s.ring q := by
  simp only [State.retryHeld, Laws.foldl_respond_eq]
  rfl

theorem retryHeld_mode : (s.retryHeld r).mode = s.mode := by
  simp only [State.retryHeld, Laws.foldl_respond_eq]
  rfl

theorem retryHeld_unheld : ∀ e ∈ (s.retryHeld r).hold, e.belongsTo r = false := by
  simp [retryHeld_hold]

/-- The hold queue takes a ring's move before or after the ring makes it. -/
theorem setRing_retryHeld (x : Ring) : (s.setRing r x).retryHeld r = (s.retryHeld r).setRing r x := by
  simp only [State.retryHeld, Laws.foldl_respond_eq]
  rfl

theorem startCheckpoint_acts (reason : CkptReason)
    (from_ : (s.ring r).phase = .active ∨ (s.ring r).phase = .broken ∧ (s.ring r).score < 160) :
    Acts c s0 s (s.startCheckpoint r reason) :=
  ((Acts.move (.startsCheckpoint reason from_)).trans (askPass_acts _)).trans (drainTest_acts ..)

theorem startClose_acts
    (from_ : (s.ring r).phase = .active ∨ (s.ring r).phase = .broken ∧ (s.ring r).score < 160) :
    Acts c s0 s (s.startClose r) :=
  ((Acts.move (.startsClose from_)).trans (askPass_acts _)).trans (drainTest_acts ..)

theorem startRollback_acts (from_ : (s.ring r).phase = .active) : Acts c s0 s (s.startRollback r) := by
  refine .trans ?_ (drainTest_acts ..)
  refine .trans ?_ (askPass_acts _)
  rw [State.modRing_eq, setRing_retryHeld]
  have rolls := Act.rollsBack (c := c) (s0 := s0) r (by rwa [retryHeld_ring]) (retryHeld_unheld s r)
  rw [retryHeld_ring] at rolls
  exact (Acts.one (.retries r)).snoc rolls

theorem startOpen_acts (mode : OpenMode) (run : s.mode = .run) (first : (s0.ring r).phase = .closed)
    (from_ : (s.ring r).phase = .closed) (cells : (s.ring r).config.cells ≠ 0) (score : (s.ring r).score < 160) :
    Acts c s0 s (s.startOpen r mode) := by
  refine .trans ?_ (drainTest_acts ..)
  refine .trans ?_ (askPass_acts _)
  rw [State.modRing_eq, setRing_retryHeld]
  have opens := Act.opens (c := c) (s0 := s0) r mode (by rwa [retryHeld_mode]) first (by rwa [retryHeld_ring])
    (by rwa [retryHeld_ring]) (by rwa [retryHeld_ring]) (retryHeld_unheld s r)
  rw [retryHeld_ring] at opens
  exact (Acts.one (.retries r)).snoc opens

/-! ### Outcomes of marks (R98, R115, R130) -/

theorem endCheckpointMark_acts (e : AccessEnd) : Acts c s0 s (s.endCheckpointMark r e) := by
  unfold State.endCheckpointMark
  refine .trans (report_acts s r e.ok) ?_
  simp only
  split
  · next m at_ held =>
    split
    · exact ((Acts.move (.completesCheckpoint m at_ held)).trans (raise_acts ..)).trans (askPass_acts _)
    · split
      · exact failMark_acts _ r _ (.inl at_)
      · exact (books_acts _ r _ (by constructor <;> rfl)).trans (requestMark_acts ..)
  · exact .refl

theorem endRollbackMark_acts (e : AccessEnd) : Acts c s0 s (s.endRollbackMark r e) := by
  unfold State.endRollbackMark
  refine .trans (report_acts s r e.ok) ?_
  simp only
  split
  · next m at_ held =>
    split
    · exact ((Acts.move (.completesRollback m at_ held)).trans (raise_acts ..)).trans (askPass_acts _)
    · split
      · exact failMark_acts _ r _ (.inr at_)
      · exact (books_acts _ r _ (by constructor <;> rfl)).trans (requestMark_acts ..)
  · exact .refl

theorem endFreshMark_acts (e : AccessEnd) : Acts c s0 s (s.endFreshMark r e) := by
  unfold State.endFreshMark
  refine .trans (report_acts s r e.ok) ?_
  simp only
  split
  · next m at_ held =>
    split
    · exact ((Acts.move (.completesFresh m at_ held)).trans (raise_acts ..)).trans (askPass_acts _)
    · split
      · exact openFail_acts _ r _ (by rw [at_]; rfl)
      · exact (books_acts _ r _ (by constructor <;> rfl)).trans (requestMark_acts ..)
  · exact .refl

/-! ### Outcomes of the restore (R108 to R111) -/

theorem endRestoreHeader_acts (e : AccessEnd) : Acts c s0 s (s.endRestoreHeader r e) := by
  unfold State.endRestoreHeader
  refine .trans (report_acts s r e.ok) ?_
  simp only
  split
  · next at_ _ =>
    split
    · exact (books_acts _ r _ (by constructor <;> rfl)).trans (requestService_acts ..)
    · exact breakRing_acts _ r _ (by rw [at_]; simp [Phase.sub])
  · exact drainTest_acts ..

theorem endRestoreImage_acts (e : AccessEnd) : Acts c s0 s (s.endRestoreImage r e) := by
  unfold State.endRestoreImage
  refine .trans (report_acts s r e.ok) ?_
  simp only
  split
  · next at_ _ =>
    have breaks (cause : Cause) := breakRing_acts (c := c) (s0 := s0) (s.report r e.ok) r cause (by rw [at_]; simp [Phase.sub])
    split
    · split
      · exact (books_acts _ r _ (by constructor <;> rfl)).trans (requestService_acts ..)
      · exact breaks _
    · exact breaks _
  · exact drainTest_acts ..

theorem endRestoreWrite_acts (e : AccessEnd) : Acts c s0 s (s.endRestoreWrite r e) := by
  unfold State.endRestoreWrite
  refine .trans (report_acts s r e.ok) ?_
  simp only
  split
  · next at_ _ _ _ =>
    split
    · exact (Acts.move (.stepsBack _ at_)).trans (restoreNext_acts ..)
    · split
      · exact breakRing_acts _ r _ (by rw [at_]; simp [Phase.sub])
      · exact (books_acts _ r _ (by constructor <;> rfl)).trans (requestService_acts ..)
  · exact drainTest_acts ..

/-! ### Outcomes of the recovery scan (R132 to R135) -/

theorem validMark_epoch (x : Ring) (id : RingId) (h : List Byte) (valid : x.validMark id h = true) :
    (parseHeader h).epoch ≠ 0 := by
  simp only [Ring.validMark, Bool.and_eq_true, bne_iff_ne] at valid
  exact valid.1.2

theorem searchNext_phase : ((s.searchNext r).ring r).phase = (s.ring r).phase := by
  unfold State.searchNext
  simp only
  split <;> simp

/-- The judgement of a cell, with the count of the reads left (R132). -/
theorem judgeMark_acts (cell reads : Nat) (header : List Byte) (at_ : (s.ring r).phase = .openingScan) :
    Acts c s0 s (s.setRing r { (s.ring r).judgeMark r cell header with scanReads := reads }) := by
  unfold Ring.judgeMark
  simp only
  split
  · next better =>
    rw [Bool.and_eq_true] at better
    exact .move (.finds { cell, seq := (parseHeader header).seq, epoch := (parseHeader header).epoch } reads at_
      (validMark_epoch _ r header better.1))
  · exact books_acts _ r _ (by constructor <;> rfl)

theorem judgeMark_phase (x : Ring) (cell : Nat) (header : List Byte) : (x.judgeMark r cell header).phase = x.phase := by
  unfold Ring.judgeMark
  simp only
  split <;> rfl

theorem endSearch_acts (cell : Nat) (e : AccessEnd) : Acts c s0 s (s.endSearch r cell e) := by
  unfold State.endSearch
  refine .trans (report_acts s r e.ok) ?_
  simp only
  split
  · next at_ _ =>
    generalize s.report r e.ok = u at at_ ⊢
    generalize hj : (if e.ok then (u.ring r).judgeMark r cell e.data else u.ring r) = judged
    have phase : judged.phase = .openingScan := by
      rw [← hj]
      split
      · exact (judgeMark_phase r _ cell e.data).trans at_
      · exact at_
    have judges : Acts c s0 u (u.setRing r { judged with scanReads := (u.ring r).scanReads - 1 }) := by
      rw [← hj]
      split
      · exact judgeMark_acts u r cell _ e.data at_
      · exact books_acts u r _ (by constructor <;> rfl)
    refine .trans (judges.trans (searchNext_acts _ r)) ?_
    split
    · exact searchEnd_acts _ r (by rw [searchNext_phase, State.setRing_ring_self]; exact phase)
    · exact .refl
  · exact .refl

theorem endWalkHeader_acts (e : AccessEnd) : Acts c s0 s (s.endWalkHeader r e) := by
  unfold State.endWalkHeader
  refine .trans (report_acts s r e.ok) ?_
  simp only
  split
  · next m cell at_ found walks =>
    split
    · exact (books_acts _ r _ (by constructor <;> rfl)).trans (requestService_acts ..)
    · exact recoverComplete_acts _ r m at_ found (.inr (by simp [walks]))
  · exact .refl

theorem endWalkImage_acts (e : AccessEnd) : Acts c s0 s (s.endWalkImage r e) := by
  unfold State.endWalkImage
  refine .trans (report_acts s r e.ok) ?_
  simp only
  split
  · next m cell header at_ found walks _ =>
    split
    · exact walkNext_acts _ r m _ _ _ _ _ at_ found (.inr ⟨by simp [walks], le_rfl⟩)
    · exact recoverComplete_acts _ r m at_ found (.inr (by simp [walks]))
  · exact .refl

end

end Sys2Proof.Machine

/-! Write contexts, steered reads, the host port and the hold queue as chains of elementary acts. -/

namespace Sys2Proof.Machine

section
variable {c : Instr} {s0 : State} (s : State) (k : CtxId) (r : RingId)

/-! ### Write contexts -/

theorem forwardCtx_acts : Acts c s0 s (s.forwardCtx k) := .one (.forwards k)

theorem unjournaled_acts : Acts c s0 s (s.unjournaled k) := by
  unfold State.unjournaled
  split
  · exact .refl
  · next y held =>
    refine (Acts.one (.context k y _ held ?_)).trans (forwardCtx_acts ..)
    exact ⟨rfl, rfl, fun _ => rfl, .inl ⟨rfl, rfl⟩⟩

theorem reportCtx_acts (ok : Bool) : Acts c s0 s (s.reportCtx k ok) := by
  unfold State.reportCtx
  split
  · exact report_acts ..
  · exact .refl

theorem endPreRead_acts (e : AccessEnd) : Acts c s0 s (s.endPreRead k e) := by
  unfold State.endPreRead
  refine .trans (reportCtx_acts s k e.ok) ?_
  simp only
  split
  · exact .refl
  · next x held =>
    split
    · next at_ =>
      split
      · refine .one (.answersCtx k fun y hy => ?_)
        obtain rfl : x = y := Option.some.inj (held.symm.trans hy)
        simp [CtxPhase.holds, at_]
      · split
        · exact forwardCtx_acts ..
        · exact .one (.context k x _ held ⟨rfl, rfl, id, .inr (by simp [CtxPhase.holds, at_])⟩)
    · exact .refl

/-- What a report can make of a context: it keeps its ring. -/
theorem afterBreak_ring (y : Context) (q : RingId) : (y.afterBreak q).ring = y.ring := by
  unfold Context.afterBreak
  split
  · rfl
  · split <;> rfl

theorem becomeBroken_ctx (cause : Cause) : (s.becomeBroken r cause).ctx k = (s.ctx k).map (·.afterBreak r) := by
  simp only [State.becomeBroken, State.askPass_ctx, State.raise_ctx, State.decideAll_ctx]
  exact mapVec_get ..

/-- The contexts a ring's break, failed open or report leaves: each still belongs to the ring it belonged to. -/
def KeepsCtxRings (s t : State) : Prop := ∀ k, (t.ctx k).bind (·.ring) = (s.ctx k).bind (·.ring)

theorem breakRing_keepsCtxRings (cause : Cause) : KeepsCtxRings s (s.breakRing r cause) := by
  intro k
  unfold State.breakRing
  split
  · rw [becomeBroken_ctx]
    cases s.ctx k <;> simp [afterBreak_ring]
  · rfl

theorem scoreFails_keepsCtxRings : KeepsCtxRings s (s.scoreFails r) := by
  rcases (s.ring r).phase.score_cases with ⟨may, noMark⟩ | at_ | at_ | at_
  · rw [scoreFails_breaks s r may noMark]
    exact breakRing_keepsCtxRings s r _
  · rw [scoreFails_marks s r at_]
    exact breakRing_keepsCtxRings (s.modRing r Ring.withdrawMark) r _
  · rw [scoreFails_opening s r at_]
    intro k
    simp [State.openFail]
  · rw [scoreFails_still s r at_]
    exact fun _ => rfl

theorem report_keepsCtxRings (ok : Bool) : KeepsCtxRings s (s.report r ok) := by
  have raised (b : Bool) (e : EventBody) (u : State) (k : CtxId) : (if b then u.raise e else u).ctx k = u.ctx k := by
    split <;> simp
  intro k
  unfold State.report
  simp only
  split
  · rw [scoreFails_keepsCtxRings _ r k, raised]
    rfl
  · rw [raised]
    rfl

/-- The state in which an outcome is delivered has the contexts and the phases of the state in which the command began. -/
structure DeliversFrom (s0 s : State) : Prop where
  ctx : ∀ k, s.ctx k = s0.ctx k
  phase : ∀ r, (s.ring r).phase = (s0.ring r).phase

variable {s k} in
/-- A context found after its report with its ring in MARK belonged to that ring, in MARK, when the command began. -/
theorem DeliversFrom.noMark {ok : Bool} {x : Context} (from_ : DeliversFrom s0 s)
    (held : (s.reportCtx k ok).ctx k = some x) (own : x.ring = some r)
    (mark : ((s.reportCtx k ok).ring r).phase.sub = .mark) :
    (s0.ring r).phase.sub = .mark ∧ ∃ k y, s0.ctx k = some y ∧ y.ring = some r := by
  unfold State.reportCtx at held mark
  split at held
  · next q hq =>
    have keeps := report_keepsCtxRings s q ok k
    rw [held, hq] at keeps
    obtain rfl : r = q := Option.some.inj (own.symm.trans keeps)
    have phase : (s.ring r).phase.sub = .mark := by
      simp only [hq] at mark
      rcases report_phase s r ok with h | h | h <;> rw [h] at mark
      · exact mark
      · simp [Phase.sub] at mark
      · simp [Phase.sub] at mark
    refine ⟨by rw [← from_.phase, phase], k, ?_⟩
    rw [← from_.ctx]
    exact Option.bind_eq_some_iff.1 hq
  · next hq => rw [held] at hq; simp [own] at hq

theorem recordWriteFailed_acts (x : Context) (again : State → State) (held : s.ctx k = some x) (at_ : x.phase.holds)
    (noMark : ∀ r, x.ring = some r → (s.ring r).phase.sub = .mark →
      (s0.ring r).phase.sub = .mark ∧ ∃ k y, s0.ctx k = some y ∧ y.ring = some r)
    (hagain : ∀ u, Acts c s0 u (again u)) : Acts c s0 s (s.recordWriteFailed k x again) := by
  unfold State.recordWriteFailed
  split
  · exact forwardCtx_acts ..
  · split
    · split
      · next r own => exact (breakRing_acts s r _ (noMark r own)).trans (forwardCtx_acts ..)
      · exact forwardCtx_acts ..
    · refine (Acts.one (.context k x _ held ?_)).trans (hagain _)
      exact ⟨rfl, rfl, id, .inr ⟨at_, at_⟩⟩

theorem endImageWrite_acts (e : AccessEnd) (from_ : DeliversFrom s0 s) : Acts c s0 s (s.endImageWrite k e) := by
  unfold State.endImageWrite
  refine .trans (reportCtx_acts s k e.ok) ?_
  simp only
  split
  · exact .refl
  · next x held =>
    split
    · next r v image at_ own _ _ =>
      have holds : x.phase.holds := by simp [CtxPhase.holds, at_]
      split
      · exact recordWriteFailed_acts _ k x _ held holds (fun q hq => from_.noMark q held hq)
          fun u => requestJournal_acts u _
      · split
        · exact forwardCtx_acts ..
        · refine (Acts.one (.context k x _ held ?_)).trans (requestJournal_acts ..)
          exact ⟨rfl, rfl, id, .inr ⟨holds, by simp [CtxPhase.holds]⟩⟩
    · exact .refl

theorem endHeaderWrite_acts (e : AccessEnd) (from_ : DeliversFrom s0 s) : Acts c s0 s (s.endHeaderWrite k e) := by
  unfold State.endHeaderWrite
  refine .trans (reportCtx_acts s k e.ok) ?_
  simp only
  split
  · exact .refl
  · next x held =>
    split
    · next r v image at_ own _ _ =>
      have holds : x.phase.holds := by simp [CtxPhase.holds, at_]
      split
      · exact recordWriteFailed_acts _ k x _ held holds (fun q hq => from_.noMark q held hq)
          fun u => requestJournal_acts u _
      · next data =>
        generalize s.reportCtx k (AccessEnd.okay data).ok = u at held ⊢
        have reported : Acts c s0 u { u with reports := u.reports ++ [⟨r, v.seq⟩] } := .quiet (by constructor <;> rfl)
        split
        · exact reported.trans (forwardCtx_acts ..)
        · refine reported.snoc (.context k x _ held ?_)
          exact ⟨rfl, rfl, id, .inr ⟨holds, by simp [CtxPhase.holds]⟩⟩
    · exact .refl

/-! ### Reservations (R11 to R17) -/

theorem highWaterTest_acts : Acts c s0 s (s.highWaterTest r) := by
  unfold State.highWaterTest
  simp only
  split
  · exact (Acts.move .disarmsHigh).trans (raise_acts ..)
  · exact .refl

theorem highWaterTest_ctx : (s.highWaterTest r).ctx k = s.ctx k := by
  unfold State.highWaterTest
  simp only
  split <;> simp

theorem grantReservation_acts (y : Context) (held : s.ctx k = some y) (at_ : y.phase = .reserve)
    (phase : (s.ring r).phase.reserves) (more : (s.ring r).nextSeq ≠ 0)
    (room : (s.ring r).live + 2 ≤ (s.ring r).config.cells) : Acts c s0 s (s.grantReservation k r y) := by
  unfold State.grantReservation
  refine .trans ?_ (requestJournal_acts ..)
  refine ((Acts.move (.grants _ phase more room)).trans (highWaterTest_acts _ r)).snoc (.context k y _ ?_ ?_)
  · rwa [highWaterTest_ctx]
  · exact ⟨rfl, rfl, id, .inr (by simp [CtxPhase.holds, at_])⟩

theorem reservationFull_acts (y : Context) (held : s.ctx k = some y) (at_ : y.phase = .reserve) :
    Acts c s0 s (s.reservationFull k r) := by
  have answers (u : State) (hu : u.ctx k = some y) : Acts c s0 u (u.answerCtx k) := by
    refine .one (.answersCtx k fun z hz => ?_)
    obtain rfl : y = z := Option.some.inj (hu.symm.trans hz)
    simp [CtxPhase.holds, at_]
  unfold State.reservationFull
  simp only
  split
  · exact ((Acts.move .disarmsFull).trans (raise_acts ..)).trans (answers _ (by simpa using held))
  · exact answers s held

theorem Phase.reserves.noMark {p : Phase} (h : p.reserves) : p.sub ≠ .mark := by
  rcases h with rfl | rfl | rfl | rfl <;> simp [Phase.sub]

theorem reserveIn_acts (y : Context) (held : s.ctx k = some y) (at_ : y.phase = .reserve)
    (phase : (s.ring r).phase.reserves) : Acts c s0 s (s.reserveIn k r y) := by
  have breaks (cause : Cause) : Acts c s0 s ((s.breakRing r cause).unjournaled k) :=
    (breakRing_acts s r cause fun h => absurd h phase.noMark).trans (unjournaled_acts ..)
  unfold State.reserveIn
  simp only
  split
  · exact breaks _
  · next more =>
    split
    · next room => exact grantReservation_acts s k r y held at_ phase (by rwa [exhausted_iff] at more) room
    · split
      · exact reservationFull_acts s k r y held at_
      · exact breaks _

theorem takeReservation_acts : Acts c s0 s (s.takeReservation k) := by
  unfold State.takeReservation
  split
  · exact .refl
  · next y held =>
    split
    · next at_ =>
      split
      · exact unjournaled_acts ..
      · next r own =>
        split
        · exact unjournaled_acts ..
        · split
          case h_1 h => exact reserveIn_acts s k r y held at_ (.inl h)
          case h_2 h => exact reserveIn_acts s k r y held at_ (.inr (.inl h))
          case h_3 h => exact reserveIn_acts s k r y held at_ (.inr (.inr (.inl h)))
          case h_4 h => exact reserveIn_acts s k r y held at_ (.inr (.inr (.inr h)))
          all_goals exact unjournaled_acts ..
    · exact .refl

/-! ### The durable frontier (R18, R19, R52) -/

theorem takeReport_acts (seq : Seq) (by_ : ∃ q, c = .durabilityReport r q) : Acts c s0 s (s.takeReport r seq) := by
  unfold State.takeReport
  simp only
  split
  · have taken : Acts c s0 s ({ s with reports := s.reports.erase { ring := r, seq } }.setRing r
        ((s.ring r).takeReport seq)) :=
      (Acts.quiet (by constructor <;> rfl)).snoc (.ring r _ (.takesReport seq))
    split
    · exact taken
    · exact taken.snoc (.rises r by_)
  · exact .refl

/-! ### Steered reads (R122 to R124) -/

theorem decide_setRing (x : Ring) (d : Decided) : (s.decide d).setRing r x = (s.setRing r x).decide d := by
  by_cases room : s.forward.length < Config.forwardPlaces <;>
    simp only [State.decide, State.setRing_forward, room, if_true, if_false] <;> rfl

theorem steerFell_tail_acts (u : State) : Acts c s0 u ((u.restoreEndTest r).drainTest r) :=
  (restoreEndTest_acts u r).trans (drainTest_acts ..)

theorem endSteer_acts (t : HostTag) (e : AccessEnd) : Acts c s0 s (s.endSteer r t e) := by
  unfold State.endSteer
  refine .trans (report_acts s r e.ok) ?_
  simp only
  generalize s.report r e.ok = u
  split
  · exact .refl
  · next q found =>
    have tag : q.req.tag = t := by simpa using List.find?_some found
    subst tag
    have held := List.mem_of_find?_eq_some found
    have answered (st : HostStatus) (data : List Byte) : Acts c s0 u ((u.respond q.req.tag st data).steerFell r q.req.tag) :=
      (Acts.one (.steerEnds r q _ held (.answered st data))).trans (steerFell_tail_acts r _)
    split
    · split
      · exact answered ..
      · split
        · refine .trans (books_acts u r _ ?_) (requestJournal_acts ..)
          constructor <;> try rfl
          simp only [List.map_map]
          exact List.map_congr_left fun p _ => by simp only [Function.comp]; split <;> rfl
        · split
          · exact answered ..
          · exact answered ..
    · unfold State.steerFell
      rw [State.modRing_eq, decide_setRing, State.decide_ring]
      exact (Acts.one (.steerEnds r q _ held (.decided _))).trans (steerFell_tail_acts r _)

/-! ### Delivery (R163) -/

theorem deliver_acts (o : Owner) (e : AccessEnd) (from_ : DeliversFrom s0 s) : Acts c s0 s (s.deliver o e) := by
  cases o with
  | preRead k => exact endPreRead_acts ..
  | imageWrite k => exact endImageWrite_acts s k e from_
  | headerWrite k => exact endHeaderWrite_acts s k e from_
  | checkpointMark r => exact endCheckpointMark_acts ..
  | rollbackMark r => exact endRollbackMark_acts ..
  | freshMark r => exact endFreshMark_acts ..
  | restoreHeader r => exact endRestoreHeader_acts ..
  | restoreImage r => exact endRestoreImage_acts ..
  | restoreWrite r => exact endRestoreWrite_acts ..
  | steerHeader r t => exact endSteer_acts ..
  | steerImage r t => exact endSteer_acts ..
  | searchHeader r cell => exact endSearch_acts ..
  | walkHeader r => exact endWalkHeader_acts ..
  | walkImage r => exact endWalkImage_acts ..

theorem answered_acts (t : OwnTag) (e : AccessEnd) (p : Owner → Bool) : Acts c s s (s.answered t e p) := by
  unfold State.answered
  split
  · split
    · exact (Acts.quiet (setOwnTag_sameBooks ..)).trans (deliver_acts _ _ _ ⟨fun _ => rfl, fun _ => rfl⟩)
    · exact .refl
  all_goals exact .refl

end

end Sys2Proof.Machine

/-! The host port, the hold queue, the command unit and the ports as chains of elementary acts, and with them every
command. -/

namespace Sys2Proof.Machine

/-! ### Regions and treatments (R33 to R35) -/

section
variable (s : State) (q : HostRequest) (r : RingId)

/-- A request of a JOURNAL region is treated by the state of its ring (R35). -/
theorem treatment_of_ring (h : s.ringFor q = some r) :
    s.treatment q = journalTreatment q.kind r (s.ring r).phase.state := by
  unfold State.ringFor at h
  unfold State.treatment
  split at h
  · simp at h
  · next g hg => cases hc : g.cls <;> simp_all

/-- A request of no ring is forwarded, or answered ERROR (R33, R34). -/
theorem treatment_of_no_ring (h : s.ringFor q = none) :
    s.treatment q = .forward ∨ s.treatment q = .answer .error := by
  unfold State.ringFor at h
  unfold State.treatment
  split at h
  · simp
  · next g hg => cases hc : g.cls <;> cases q.kind <;> simp_all

/-- Only a write of an open ring that is neither OPENING nor ROLLING waits for its ring, or looks for its line (R35). -/
theorem treatment_waits (h : s.treatment q = .holdMark ∨ s.treatment q = .holdClose ∨ s.treatment q = .lookUp r) :
    q.kind = .write ∧ ∃ p, s.ringFor q = some p ∧
      ((s.ring p).phase.state = .checkpointing ∨ (s.ring p).phase.state = .closing ∨ (s.ring p).phase.state = .active) := by
  cases hr : s.ringFor q with
  | none => rcases treatment_of_no_ring s q hr with e | e <;> simp [e] at h
  | some p =>
    rw [treatment_of_ring s q p hr] at h
    cases hs : (s.ring p).phase.state <;> cases hk : q.kind <;> simp_all [journalTreatment]

/-- A write that is forwarded is of no ring, or of one that is CLOSED or BROKEN (R35). -/
theorem treatment_forward_write (h : s.treatment q = .forward) (write : q.kind = .write) (hr : s.ringFor q = some r) :
    (s.ring r).phase.state = .closed ∨ (s.ring r).phase.state = .broken := by
  rw [treatment_of_ring s q r hr, write] at h
  cases hs : (s.ring r).phase.state <;> simp_all [journalTreatment]

/-- The ring of a write that looks for its line is ACTIVE (R35). -/
theorem treatment_lookUp (h : s.treatment q = .lookUp r) : s.ringFor q = some r ∧ (s.ring r).phase = .active := by
  obtain ⟨hk, p, hp, _⟩ := treatment_waits s q r (.inr (.inr h))
  rw [treatment_of_ring s q p hp, hk] at h
  have state : (s.ring p).phase.state = .active ∧ p = r := by
    cases hs : (s.ring p).phase.state <;> simp_all [journalTreatment]
  obtain ⟨hs, rfl⟩ := state
  refine ⟨hp, ?_⟩
  cases hph : (s.ring p).phase <;> simp_all [Phase.state]

end

/-! ### Requests that get a place -/

section
variable {c : Instr} {s0 : State} (s : State) (q : HostRequest) (r : RingId)

/-- An entry may be held for its line whatever it is, and for its ring as its treatment says (R76, R82). -/
theorem mayHold_of_treatment (reason : HoldReason)
    (h : s.treatment q = .holdMark ∨ s.treatment q = .holdClose ∨ s.treatment q = .lookUp r) :
    s.mayHold { req := q, ring := s.ringFor q, reason } := by
  intro _
  obtain ⟨write, p, hp, state⟩ := treatment_waits s q r h
  refine ⟨write, fun r' hr' => ?_⟩
  obtain rfl : p = r' := Option.some.inj (hp.symm.trans hr')
  rcases state with h | h | h <;> simp [h]

theorem mayHold_line (ring : Option RingId) : s.mayHold { req := q, ring, reason := .line } := fun h => absurd rfl h

/-- An entry that a pass stops at keeps its reason, with the ring of its match (R79). -/
theorem mayHold_stopped (e : HoldEntry) (h : s.treatment e.req = .forward ∨ s.treatment e.req = .lookUp r)
    (held : s.mayHold e) : s.mayHold { e with ring := s.ringFor e.req } := by
  intro reason
  have write := (held reason).1
  refine ⟨write, fun p hp => ?_⟩
  rcases h with forward | looks
  · rcases treatment_forward_write s e.req p forward write hp with h | h <;> simp [h]
  · exact ((mayHold_of_treatment s e.req r e.reason (.inr (.inr looks))) reason).2 p hp

theorem proceed_placed (src : Source) (ring : Option RingId) : Placed s q (s.proceed src ring q) := by
  unfold State.proceed
  simp only
  split
  · exact .counted src _
  · exact .decided src
  · exact .decided src

theorem steerRead_placed : ∃ u, Placed s q u ∧ u.SameBooks (s.steerRead r q) := by
  have same (u : State) : u.SameBooks u := by constructor <;> rfl
  unfold State.steerRead
  simp only
  split
  · split
    · split
      · exact ⟨_, .decided _, same _⟩
      · split
        · exact ⟨_, .decided _, same _⟩
        · exact ⟨_, .steered r _, requestJournal_sameBooks ..⟩
    · exact ⟨_, .answered .., same _⟩
  · exact ⟨_, .decided _, same _⟩

theorem takeContext_placed (k : CtxId) (free : s.ctx k = none) (active : (s.ring r).phase = .active) :
    ∃ u, Placed s q u ∧ u.SameBooks (s.takeContext k r q) :=
  ⟨_, .context k r free active, requestJournal_sameBooks ..⟩

/-- The context test finds a context that is free (R77). -/
theorem contextFor_free (ahead : List HoldEntry) (k : CtxId) (h : s.contextFor ahead = some k) : s.ctx k = none := by
  unfold State.contextFor at h
  split at h
  · simp at h
  · simpa using List.find?_some h

/-! ### Arrivals (R33, R76, R154 to R157) -/

theorem arrive_acts (free : s.tagEntry q.tag = none) (room : s.hold.length < 16) :
    Acts c s0 s ((s.enrol q).arrive q) := by
  have placed {u : State} (h : Placed (s.enrol q) q u) : Acts c s0 s u := .one (.arrives q u free h)
  have almost {u : State} (h : ∃ v, Placed (s.enrol q) q v ∧ v.SameBooks u) : Acts c s0 s u := by
    obtain ⟨v, hv, hu⟩ := h
    exact (placed hv).snoc (.quiet _ hu)
  have held (ring : Option RingId) (reason : HoldReason) (h : s.mayHold ⟨q, ring, reason⟩) :
      Acts c s0 s ((s.enrol q).holdRequest ring q reason) := .one (.arrivesHeld ⟨q, ring, reason⟩ free room h)
  unfold State.arrive
  simp only
  split
  · exact placed (.answered ..)
  · next t => exact held _ _ (mayHold_of_treatment s q 0 _ (.inl t))
  · next t => exact held _ _ (mayHold_of_treatment s q 0 _ (.inr (.inl t)))
  · split
    · exact held _ _ (mayHold_line s q _)
    · exact placed (proceed_placed ..)
  · split
    · exact held _ _ (mayHold_line s q _)
    · exact almost (steerRead_placed ..)
  · next p t =>
    split
    · exact held _ _ (mayHold_line s q _)
    · split
      · exact placed (proceed_placed ..)
      · split
        · next k hk => exact almost (takeContext_placed _ q p k (contextFor_free _ _ k hk) (treatment_lookUp _ q p t).2)
        · exact held _ _ (mayHold_of_treatment s q p _ (.inr (.inr t)))

theorem takeRequest_acts : Acts c s0 s (s.takeRequest q) := by
  unfold State.takeRequest
  split
  · next ready =>
    split
    · exact raise_acts ..
    · next free =>
      simp only [State.hostReady, Bool.and_eq_true, decide_eq_true_eq, Config.holdPlaces] at ready
      have room := ready.1.1.2
      simp only
      split
      · split
        · exact .one (.arrives q _ free (.decided _))
        · exact arrive_acts s q free room
      · exact .one (.arrives q _ free (.answered ..))
  · exact .refl

/-! ### The pass (R78, R79) -/

/-- A request gets its place whatever the hold queue holds meanwhile. -/
theorem Placed.withHold {s u : State} {q : HostRequest} (h : Placed s q u) (hold : List HoldEntry) :
    Placed { s with hold } q { u with hold } := by
  have decides (v : State) (d : Decided) : { v.decide d with hold } = { v with hold }.decide d := by
    unfold State.decide
    split <;> simp [*]
  have counts (v : State) (r : RingId) (t : HostTag) : { v.countWrite r t with hold } = { v with hold }.countWrite r t := by
    unfold State.countWrite
    have same : { v with hold }.tagEntry t = v.tagEntry t := rfl
    rw [same]
    cases v.tagEntry t <;> rfl
  cases h with
  | answered st data => exact .answered st data
  | decided src => rw [decides]; exact .decided src
  | counted src r => rw [decides, counts]; exact .counted src r
  | steered r cell => exact .steered r cell
  | context k r free active => rw [counts]; exact .context k r free active

/-- What a visit of an entry may come to. -/
def Visit.Allowed (s : State) (e : HoldEntry) : Visit → Prop
  | .stays e' | .stops e' => e'.req = e.req ∧ (s.mayHold e → s.mayHold e')
  | .leaves t => ∃ u, Placed s e.req u ∧ u.SameBooks t

theorem visitForward_allowed (e : HoldEntry)
    (h : s.treatment e.req = .forward ∨ s.treatment e.req = .lookUp r) :
    (s.visitForward e (s.ringFor e.req)).Allowed s e := by
  unfold State.visitForward
  split
  · exact ⟨_, proceed_placed .., by constructor <;> rfl⟩
  · exact ⟨rfl, mayHold_stopped s r e h⟩

theorem visit_allowed (ahead : List HoldEntry) (e : HoldEntry) : (s.visit ahead e).Allowed s e := by
  have same (u : State) : u.SameBooks u := by constructor <;> rfl
  unfold State.visit
  split
  · unfold State.visitConfig
    split
    · exact ⟨_, .decided _, same _⟩
    · exact ⟨rfl, id⟩
  · unfold State.visitRun
    split
    · exact ⟨rfl, fun _ => mayHold_line s e.req _⟩
    · simp only
      split
      · exact ⟨_, .answered .., same _⟩
      · next t => exact ⟨rfl, fun _ => mayHold_of_treatment s e.req 0 _ (.inl t)⟩
      · next t => exact ⟨rfl, fun _ => mayHold_of_treatment s e.req 0 _ (.inr (.inl t))⟩
      · next t => exact visitForward_allowed s 0 e (.inl t)
      · exact steerRead_placed ..
      · next p t =>
        split
        · exact visitForward_allowed s p e (.inr t)
        · split
          · next k hk => exact takeContext_placed s e.req p k (contextFor_free s ahead k hk) (treatment_lookUp s e.req p t).2
          · exact ⟨rfl, fun _ => mayHold_of_treatment s e.req p _ (.inr (.inr t))⟩

/-- The pass from the state in which the entries left held and the entries still to visit make up the hold queue. -/
theorem passOver_acts (es : List HoldEntry) : ∀ (s : State) (ahead : List HoldEntry),
    Acts c s0 { s with hold := ahead ++ es } (s.passOver ahead es) := by
  induction es with
  | nil =>
    intro s ahead
    rw [List.append_nil]
    exact .quiet (by constructor <;> rfl)
  | cons e es ih =>
    intro s ahead
    have allowed := visit_allowed s ahead e
    unfold State.passOver
    cases hv : s.visit ahead e with
    | stays e' =>
      rw [hv] at allowed
      have rest := ih s (ahead ++ [e'])
      rw [List.append_assoc] at rest
      exact (Acts.one (Act.stays (s := { s with hold := ahead ++ e :: es }) ahead e e' es rfl allowed.1 allowed.2)).trans rest
    | leaves t =>
      rw [hv] at allowed
      obtain ⟨u, placed, same⟩ := allowed
      have leaves : Act c s0 { s with hold := ahead ++ e :: es } { u with hold := ahead ++ es } :=
        .leaves ahead e es _ rfl (placed.withHold _)
      refine ((Acts.one leaves).snoc (.quiet _ ?_)).trans (ih t ahead)
      obtain ⟨h1, h2, h3, h4, h5, h6, h7, h8, h9, h10, h11, h12, h13⟩ := same
      exact ⟨h1, h2, h3, h4, rfl, h6, h7, h8, h9, h10, h11, h12, h13⟩
    | stops e' =>
      rw [hv] at allowed
      exact (Acts.one (Act.stays (s := { s with hold := ahead ++ e :: es }) ahead e e' es rfl allowed.1 allowed.2)).snoc (.quiet _ (by constructor <;> rfl))

theorem makePass_acts : Acts c s0 s s.makePass := by
  unfold State.makePass
  split
  · exact (Acts.quiet (t := { s with passAsked := false }) (by constructor <;> rfl)).trans
      (passOver_acts s.hold { s with passAsked := false } [])
  · exact .refl

/-! ### Responses (R158) -/

/-- The return of a response, and then the test of the drain of the ring that counted its request (R57, R58, R158). -/
theorem returnResponse_cons (p : HostResponse) (ps : List HostResponse) (h : s.ready = p :: ps) :
    s.returnResponse = match (s.tagEntry p.tag).bind (·.counted) with
      | none => s.afterReturn p ps
      | some r => (s.afterReturn p ps).drainTest r := by
  unfold State.returnResponse State.afterReturn
  simp only [h]
  cases (s.tagEntry p.tag).bind (·.counted) <;> rfl

theorem returnResponse_acts : Acts c s0 s s.returnResponse := by
  cases h : s.ready with
  | nil => simp only [State.returnResponse, h]; exact .refl
  | cons p ps =>
    rw [returnResponse_cons s p ps h]
    split
    · exact .one (.returns p ps h)
    · exact (Acts.one (.returns p ps h)).trans (drainTest_acts ..)

/-! ### The memory port (R160 to R163) -/

theorem noteIssued_acts (o : Owner) (t : OwnTag) : Acts c s0 s (s.noteIssued o t) := by
  unfold State.noteIssued
  split
  · exact .refl
  · split
    · exact .refl
    · next x held => exact .one (.context _ x _ held ⟨rfl, rfl, id, .inl ⟨rfl, rfl⟩⟩)

theorem issueOwn_acts (a : Access) (t : OwnTag) (cls : ArbClass) : Acts c s0 s (s.issueOwn a t cls) := by
  unfold State.issueOwn
  exact (Acts.quiet (by constructor <;> rfl)).trans (noteIssued_acts ..)

theorem grant_acts : Acts c s0 s s.grant := by
  unfold State.grant
  split
  · exact .refl
  · exact .one .issues
  · split
    · exact (Acts.quiet (by constructor <;> rfl)).trans (issueOwn_acts ..)
    · exact .refl
  · split
    · exact (Acts.quiet (by constructor <;> rfl)).trans (issueOwn_acts ..)
    · exact .refl

theorem orphanAnswered_acts (t : OwnTag) : Acts c s0 s (s.orphanAnswered t) := by
  unfold State.orphanAnswered
  split
  · exact .quiet (setOwnTag_sameBooks ..)
  · exact .quiet (setOwnTag_sameBooks ..)
  · exact .refl
  · exact .refl

theorem ownTimeout_acts (t : OwnTag) (from_ : DeliversFrom s0 s) : Acts c s0 s (s.ownTimeout t) := by
  unfold State.ownTimeout
  split
  · simp only
    refine (Acts.quiet (setOwnTag_sameBooks s t .quarantined)).trans ?_
    split
    · exact deliver_acts _ _ _ ⟨from_.ctx, from_.phase⟩
    · exact .refl
  all_goals exact .refl

theorem passTime_acts (n : Nat) : Acts c s0 s (s.passTime n) := .one (.time n)

theorem passTime_delivers (n : Nat) : DeliversFrom s (s.passTime n) :=
  ⟨fun _ => rfl, fun r => by rw [State.passTime_ring]⟩

/-! ### Triggers (R90, R92, R165) -/

theorem takeExpiry_acts : Acts c s0 s (s.takeExpiry r) := by
  unfold State.takeExpiry
  split
  · next at_ _ => exact startCheckpoint_acts s r _ (.inl at_)
  · exact .refl

/-- Checkpoints started on different rings that are ACTIVE: each finds its ring as it was. -/
theorem startCheckpoints_acts (rs : List RingId) : ∀ s : State, rs.Nodup → (∀ r ∈ rs, (s.ring r).phase = .active) →
    Acts c s0 s (rs.foldl (fun t r => t.startCheckpoint r .pin) s) := by
  induction rs with
  | nil => exact fun _ _ _ => .refl
  | cons r rs ih =>
    intro s nodup active
    obtain ⟨fresh, nodup⟩ := List.nodup_cons.1 nodup
    refine (startCheckpoint_acts s r _ (.inl (active r (by simp)))).trans (ih _ nodup fun p hp => ?_)
    have other : p ≠ r := fun e => fresh (e ▸ hp)
    obtain ⟨-, -, -, -, -, -, -, -, -, -, -, -, -, -, -, -, rings⟩ := Laws.startCheckpoint_only r s .pin
    rw [rings p other]
    exact active p (by simp [hp])

theorem takeEdge_acts : Acts c s0 s s.takeEdge := by
  unfold State.takeEdge
  have perm := s.freeOrder_perm s.edgeRings
  refine (Acts.quiet (afterOrder_sameBooks s s.edgeRings)).trans (startCheckpoints_acts _ _ ?_ fun r hr => ?_)
  · exact perm.nodup_iff.2 ((List.nodup_finRange 4).filter _)
  · have at_ := perm.mem_iff.1 hr
    simp only [State.edgeRings, List.mem_filter, Bool.and_eq_true, beq_iff_eq] at at_
    exact at_.2.2

theorem sampleTick_acts (level : Bool) : Acts c s0 s (s.sampleTick level) := by
  have sampled : Acts c s0 s { s.passTime 1 with ckptLevel := level } :=
    (passTime_acts s 1).snoc (.quiet _ (by constructor <;> rfl))
  unfold State.sampleTick
  simp only
  split
  · exact sampled.trans (takeEdge_acts _)
  · exact sampled

theorem sampleTicks_acts (levels : List Bool) : ∀ s : State, Acts c s0 s (levels.foldl State.sampleTick s) := by
  induction levels with
  | nil => exact fun _ => .refl
  | cons level levels ih => exact fun s => (sampleTick_acts s level).trans (ih _)

end

end Sys2Proof.Machine

/-! The command unit, the frames and the device reset as chains of elementary acts; and so every command. -/

namespace Sys2Proof.Machine

section
variable {c : Instr} {s0 : State} (s : State) (r : RingId)

/-! ### The command unit (R170, R171) -/

/-- A record that the command unit answers stands in a slot that is LOADED or EXECUTING. -/
theorem commandAt_slot (part : CommandPart) (i : SlotId) (rec : List Byte) (h : s.commandAt part = some (i, rec)) :
    s.slot i = .loaded rec ∨ s.slot i = .executing rec := by
  cases part with
  | whole =>
    obtain ⟨-, _, -, slot⟩ := (nextCommand_iff s i rec).1 h
    exact .inl slot
  | takes => cases h
  | answers => exact .inr (executing_some s i rec h)

theorem takeCommand_acts (mine : Option CommandCode) : Acts c s0 s (s.takeCommand mine) := by
  unfold State.takeCommand
  split
  · exact .refl
  · next i rec next =>
    split
    · exact .one (.takes i rec next)
    · exact .refl

/-- An owner of a command: what it does is a chain of acts, and it leaves the slots as they are. -/
def OwnerActs (c : Instr) (owner : RingId → List Byte → State → Answer) : Prop :=
  ∀ r rec s, Acts c s s (owner r rec s).state ∧ (owner r rec s).state.slots = s.slots

theorem execute_acts (part : CommandPart) (code : CommandCode) (owner : RingId → List Byte → State → Answer)
    (acts : OwnerActs c owner) : Acts c s s (s.execute part code owner) := by
  have answered : Acts c s s (s.answerCommand part code owner) := by
    unfold State.answerCommand
    split
    · exact .refl
    · next i rec at_ =>
      have slot := commandAt_slot s part i rec at_
      split
      · split
        · exact .one (.answers i rec .badValue [] slot)
        · next r _ =>
          obtain ⟨owned, slots⟩ := acts r rec s
          have same : (owner r rec s).state.slot i = s.slot i := congrArg (·.get i) slots
          exact owned.snoc (.answers i rec _ _ (by rwa [same]))
      · exact .refl
  cases part with
  | takes => exact takeCommand_acts ..
  | whole => exact answered
  | answers => exact answered

theorem answerUnknown_acts (part : CommandPart) : Acts c s0 s (s.answerUnknown part) := by
  unfold State.answerUnknown
  split
  · exact .refl
  · next i rec at_ =>
    split
    · exact .one (.answers i rec .unknown [] (commandAt_slot s part i rec at_))
    · exact .refl

theorem onlyRing_slots {t : State} (h : Safety.OnlyRing r s t) : t.slots = s.slots := by
  obtain ⟨-, -, -, -, -, -, -, slots, -⟩ := h
  exact slots

/-! ### The owners of the commands -/

theorem Phase.state_active {p : Phase} (h : p.state = .active) : p = .active := by cases p <;> simp_all [Phase.state]

theorem Phase.state_broken {p : Phase} (h : p.state = .broken) : p = .broken := by cases p <;> simp_all [Phase.state]

theorem Phase.state_closed {p : Phase} (h : p.state = .closed) : p = .closed := by cases p <;> simp_all [Phase.state]

theorem checkpointOwner_acts : OwnerActs c checkpointOwner := by
  intro r rec s
  unfold checkpointOwner
  split
  · next h =>
    exact ⟨startCheckpoint_acts s r _ (.inl (Phase.state_active h)), onlyRing_slots s r (Laws.startCheckpoint_only ..)⟩
  · next h =>
    split
    · next low =>
      exact ⟨startCheckpoint_acts s r _ (.inr ⟨Phase.state_broken h, low⟩),
        onlyRing_slots s r (Laws.startCheckpoint_only ..)⟩
    · exact ⟨.refl, rfl⟩
  all_goals exact ⟨.refl, rfl⟩

theorem closeOwner_acts : OwnerActs c closeOwner := by
  intro r rec s
  unfold closeOwner
  split
  · next h => exact ⟨startClose_acts s r (.inl (Phase.state_active h)), onlyRing_slots s r (Laws.startClose_only ..)⟩
  · next h =>
    split
    · next low =>
      exact ⟨startClose_acts s r (.inr ⟨Phase.state_broken h, low⟩), onlyRing_slots s r (Laws.startClose_only ..)⟩
    · exact ⟨.refl, rfl⟩
  all_goals exact ⟨.refl, rfl⟩

theorem rollbackOwner_acts : OwnerActs c rollbackOwner := by
  intro r rec s
  unfold rollbackOwner
  split
  · next h => exact ⟨startRollback_acts s r (Phase.state_active h), onlyRing_slots s r (Laws.startRollback_only ..)⟩
  all_goals exact ⟨.refl, rfl⟩

/-- An open that is accepted finds its ring CLOSED and configured, with a score below 160, in RUN (R127). -/
theorem openRefusal_none (h : openRefusal s r = none) : (s.ring r).phase = .closed ∧ s.mode = .run ∧
    (s.ring r).config.cells ≠ 0 ∧ (s.ring r).score < 160 := by
  unfold openRefusal at h
  simp only at h
  split at h
  case h_7 hs =>
    refine ⟨Phase.state_closed hs, ?_⟩
    simp only [Config.failedScore] at h
    split_ifs at h with config cells score
    refine ⟨?_, cells, by omega⟩
    cases hm : s.mode
    · exact absurd hm config
    · rfl
  all_goals simp at h

theorem openOwner_acts : OwnerActs c openOwner := by
  intro r rec s
  unfold openOwner
  split
  · exact ⟨.refl, rfl⟩
  · next mode _ =>
    split
    · exact ⟨.refl, rfl⟩
    · next accepted =>
      obtain ⟨closed, run, cells, score⟩ := openRefusal_none s r accepted
      exact ⟨startOpen_acts s r mode run closed closed cells score, onlyRing_slots s r (Laws.startOpen_only ..)⟩

theorem resetOwner_acts : OwnerActs c resetOwner :=
  fun r _ s => ⟨.one (.resets r), onlyRing_slots s r (Laws.resetRing_only ..)⟩

/-- The capacity of a configuration that passes its checks (R2). -/
theorem configOf_cells (rec : List Byte) (cfg : RingConfig) (h : configOf rec = some cfg) :
    cfg.cells = 0 ∨ 16 ≤ cfg.cells := by
  simp only [configOf, Option.bind_eq_bind, Option.bind_eq_some_iff] at h
  obtain ⟨_, _, _, _, _, _, h⟩ := h
  split at h
  · next checks =>
    obtain rfl := Option.some.inj h
    simp only [capacityLegal, Bool.and_eq_true, Bool.or_eq_true, beq_iff_eq, decide_eq_true_eq] at checks
    exact checks.1.1.2.imp id fun h => h.1.1
  · simp at h

theorem configureOwner_acts (by_ : ∃ p, c = .configureRing p) : OwnerActs c configureOwner := by
  intro r rec s
  unfold configureOwner
  split
  · next closed =>
    split
    · exact ⟨.refl, rfl⟩
    · next cfg h => exact ⟨.one (.configures r cfg by_ closed (configOf_cells rec cfg h)), rfl⟩
  · exact ⟨.refl, rfl⟩

theorem setIntervalOwner_acts (by_ : ∃ p, c = .setInterval p) : OwnerActs c setIntervalOwner := by
  intro r rec s
  unfold setIntervalOwner
  split
  · exact ⟨.refl, rfl⟩
  · next code _ => exact ⟨.one (.setsInterval r code by_), rfl⟩

theorem allClosed_iff : s.allClosed = true ↔ ∀ r, (s.ring r).phase = .closed := by
  simp only [State.allClosed, List.all_eq_true, beq_iff_eq, State.ring]
  constructor
  · exact fun h r => h _ (Vector.mem_toList_iff.2 (Vector.getElem_mem (xs := s.rings) r.isLt))
  · intro h x hx
    obtain ⟨n, hn, rfl⟩ := Vector.getElem_of_mem (by simpa using hx)
    exact h ⟨n, hn⟩

theorem setModeOwner_acts (by_ : ∃ p, c = .setMode p) : OwnerActs c setModeOwner := by
  intro r rec s
  have sets (m : Mode) (h : m = .config → ∀ r, (s.ring r).phase = .closed) :
      Acts c s s ({ s with mode := m }.askPass) := (Acts.one (.mode m by_ h)).trans (askPass_acts _)
  unfold setModeOwner
  split
  · exact ⟨.refl, rfl⟩
  · split
    · exact ⟨.refl, rfl⟩
    · split
      · exact ⟨sets .run (by simp), rfl⟩
      · split
        · next closed => exact ⟨sets .config fun _ => (allClosed_iff s).1 closed, rfl⟩
        · exact ⟨.refl, rfl⟩

theorem writeRegionOwner_acts (by_ : ∃ p, c = .writeRegion p) : OwnerActs c writeRegionOwner := by
  intro r rec s
  unfold writeRegionOwner
  split
  · exact ⟨.refl, rfl⟩
  · split
    · exact ⟨.one (.region _ _ by_), rfl⟩
    · exact ⟨.refl, rfl⟩

theorem readRegionOwner_acts : OwnerActs c readRegionOwner := by
  intro r rec s
  unfold readRegionOwner
  split <;> exact ⟨.refl, rfl⟩

theorem readRingOwner_acts : OwnerActs c readRingOwner := fun _ _ _ => ⟨.refl, rfl⟩

/-! ### Frames (R166 to R177) -/

theorem whole_acts (act : State → State) (h : s.frame = none → Acts c s0 s (act s)) : Acts c s0 s (s.whole act) := by
  unfold State.whole
  split
  · exact .quiet (by constructor <;> rfl)
  · split
    · next free => exact h free
    · exact .refl

theorem loadCommand_acts (i : SlotId) (body : List Byte) : Acts c s0 s (s.loadCommand i body) := by
  have driven : Acts c s0 s { s with sdo := shifted [] body.length } := .quiet (by constructor <;> rfl)
  unfold State.loadCommand
  simp only
  split
  · exact driven
  · next long =>
    split
    · next empty => exact driven.snoc (.loads i _ empty (by simp only [List.length_take]; omega))
    all_goals exact driven.snoc (.quiet _ (setRejected_sameBooks ..))

/-- A frame that may end now: an answer that it took is its own, or still in its slot, and only an EVENT read takes an
event. -/
structure Frame.FitsAt (c : Instr) (s : State) (f : Frame) : Prop where
  response : ∀ i rec, f = .response i rec true → s.frame = some f ∨ s.slot i = .answered rec
  event : ∀ rec, f = .event rec true → ∃ p, c = .eventRead p

theorem endFrame_acts (f : Frame) (bytes : Nat) (fits : f.FitsAt c s) : Acts c s0 s (s.endFrame f bytes) := by
  have ended : Acts c s0 s { s with frame := none, sdo := shifted f.record bytes } :=
    (Acts.one .endsFrame).snoc (.quiet _ (by constructor <;> rfl))
  unfold State.endFrame
  simp only
  split
  · cases f with
    | response i rec held =>
      cases held with
      | false => exact ended
      | true =>
        have collects := fits.response i rec rfl
        refine (Acts.one (.collects i rec (collects.imp id id))).snoc (.quiet _ ?_)
        constructor <;> rfl
    | status rec r0 r1 o =>
      refine ended.snoc (.quiet _ ?_)
      unfold Frame.completed
      cases r0 <;> cases r1 <;> cases o <;> constructor <;> rfl
    | event rec held =>
      cases held with
      | false => exact ended
      | true => exact ended.snoc (.reads (fits.event rec rfl))
  · exact ended

theorem readFrame_acts (f : State → Frame) (part : FramePart)
    (taken : ∀ i rec, f s = .response i rec true → s.slot i = .answered rec)
    (mine : ∀ g : Frame, g.sameKind (f s) = true → ∀ rec, g = .event rec true → ∃ p, c = .eventRead p) :
    Acts c s0 s (s.readFrame f part) := by
  cases part with
  | whole bytes =>
    have same : (f s).sameKind (f s) = true := by cases f s <;> simp [Frame.sameKind]
    exact whole_acts s (fun t => t.endFrame (f t) bytes) fun _ =>
      endFrame_acts s (f s) bytes ⟨fun i rec h => .inr (taken i rec h), mine (f s) same⟩
  | kindByte =>
    unfold State.readFrame
    simp only
    split
    · exact .refl
    · split
      · next free => exact .one (.takesFrame (f s) free taken)
      · exact .refl
  | ends bytes =>
    unfold State.readFrame
    simp only
    split
    · exact .quiet (by constructor <;> rfl)
    · split
      · exact .refl
      · next g inFrame =>
        split
        · next same => exact endFrame_acts s g bytes ⟨fun i rec _ => .inl inFrame, mine g same⟩
        · exact .refl

theorem responseRead_acts (i : SlotId) (part : FramePart) :
    Acts c s0 s (s.readFrame (fun t => t.responseFrame i) part) := by
  refine readFrame_acts s _ part (fun j rec h => ?_) fun g same rec h => ?_
  · unfold State.responseFrame at h
    split at h <;> simp_all
  · subst h
    unfold State.responseFrame at same
    split at same <;> simp [Frame.sameKind] at same

theorem statusRead_acts (part : FramePart) : Acts c s0 s (s.readFrame State.statusFrame part) := by
  refine readFrame_acts s _ part (fun j rec h => ?_) fun g same rec h => ?_
  · simp [State.statusFrame] at h
  · subst h
    simp [State.statusFrame, Frame.sameKind] at same

theorem eventRead_acts (part : FramePart) (by_ : ∃ p, c = .eventRead p) :
    Acts c s0 s (s.readFrame State.eventFrame part) := by
  refine readFrame_acts s _ part (fun j rec h => ?_) fun g same rec h => by_
  unfold State.eventFrame at h
  split at h <;> simp at h

/-! ### Every command -/

/-- Every command is a chain of elementary acts. -/
theorem exec_acts (t : State) (h : exec c s = .next t) : Acts c s s t := by
  have run (u : State) (acts : Acts c s s u) (h : running s u = .next t) : Acts c s s t := by
    cases hr : s.inReset with
    | true =>
      rw [running_reset s u hr] at h
      obtain rfl := Host.Outcome.next.inj h
      exact .refl
    | false =>
      rw [running_eq s u hr] at h
      obtain rfl := Host.Outcome.next.inj h
      exact acts
  cases c with
  | hostRequest q => exact run _ (takeRequest_acts s q) h
  | reEvaluation => exact run _ (makePass_acts s) h
  | memoryResponse t st d => exact run _ (.one (.memory t st d)) h
  | responseReturn => exact run _ (returnResponse_acts s) h
  | arbiterGrant => exact run _ (grant_acts s) h
  | ownAccessTimeout t n => exact run _ ((passTime_acts s n).trans (ownTimeout_acts _ t (passTime_delivers s n))) h
  | orphanResponse t st d => exact run _ (orphanAnswered_acts s t) h
  | preReadComplete t st d => exact run _ (answered_acts ..) h
  | reservationRequest k => exact run _ (takeReservation_acts s k) h
  | imageWriteComplete t st => exact run _ (answered_acts ..) h
  | headerWriteComplete t st => exact run _ (answered_acts ..) h
  | durabilityReport r q => exact run _ (takeReport_acts s r q ⟨q, rfl⟩) h
  | checkpoint p => exact run _ (execute_acts s p _ _ checkpointOwner_acts) h
  | timerExpiry r n => exact run _ ((passTime_acts s n).trans (takeExpiry_acts _ r)) h
  | ckptEdge levels => exact run _ (sampleTicks_acts levels s) h
  | checkpointMarkWriteComplete t st => exact run _ (answered_acts ..) h
  | rollback p => exact run _ (execute_acts s p _ _ rollbackOwner_acts) h
  | restoreReadComplete t st d => exact run _ (answered_acts ..) h
  | restoreWriteComplete t st => exact run _ (answered_acts ..) h
  | rollbackMarkWriteComplete t st => exact run _ (answered_acts ..) h
  | steeringReadComplete t st d => exact run _ (answered_acts ..) h
  | openRing p => exact run _ (execute_acts s p _ _ openOwner_acts) h
  | freshMarkWriteComplete t st => exact run _ (answered_acts ..) h
  | searchReadComplete t st d => exact run _ (answered_acts ..) h
  | walkReadComplete t st d => exact run _ (answered_acts ..) h
  | closeRing p => exact run _ (execute_acts s p _ _ closeOwner_acts) h
  | resetRing p => exact run _ (execute_acts s p _ _ resetOwner_acts) h
  | setMode p => exact run _ (execute_acts s p _ _ (setModeOwner_acts ⟨p, rfl⟩)) h
  | writeRegion p => exact run _ (execute_acts s p _ _ (writeRegionOwner_acts ⟨p, rfl⟩)) h
  | readRegion p => exact run _ (execute_acts s p _ _ readRegionOwner_acts) h
  | configureRing p => exact run _ (execute_acts s p _ _ (configureOwner_acts ⟨p, rfl⟩)) h
  | readRing p => exact run _ (execute_acts s p _ _ readRingOwner_acts) h
  | setInterval p => exact run _ (execute_acts s p _ _ (setIntervalOwner_acts ⟨p, rfl⟩)) h
  | unknownCommand p =>
    refine run _ ?_ h
    cases p with
    | takes => exact takeCommand_acts ..
    | whole => exact answerUnknown_acts s .whole
    | answers => exact answerUnknown_acts s .answers
  | commandFrame i body => exact run _ (whole_acts s _ fun _ => loadCommand_acts s i body) h
  | responseRead i p => exact run _ (responseRead_acts s i p) h
  | statusRead p => exact run _ (statusRead_acts s p) h
  | eventRead p => exact run _ (eventRead_acts s p ⟨p, rfl⟩) h
  | unknownFrameKind k n =>
    refine run _ ?_ h
    split
    · exact .refl
    · exact whole_acts s _ fun _ => .quiet (by constructor <;> rfl)
  | deviceReset =>
    obtain rfl := Host.Outcome.next.inj h
    exact .one (.device rfl)
  | deviceResetEnd b high =>
    obtain rfl := Host.Outcome.next.inj h
    unfold State.leaveReset
    split
    · exact .quiet (by constructor <;> rfl)
    · exact .refl

end

/-- Every step, a tick of the time base too, is a chain of elementary acts from the state without its command. -/
theorem step_acts (s t : State) (h : step s = .next t) :
    ∃ c rest, Acts c { s with pending := rest } { s with pending := rest } t := by
  unfold step at h
  split at h
  · obtain rfl := Host.Outcome.next.inj h
    refine ⟨.responseReturn, s.pending, ?_⟩
    unfold State.tick
    split
    · exact .refl
    · exact passTime_acts s 1
  · next c rest _ => exact ⟨c, rest, exec_acts _ t h⟩

end Sys2Proof.Machine

/-! What one elementary act can make of one ring controller, whatever the act; and the laws of a ring by itself. -/

namespace Sys2Proof.Machine

/-- What an elementary act of the command `c` can make of ring controller `q`, in the mode `mode`. -/
inductive RingStep (c : Instr) (s0 : State) (q : RingId) (mode : Mode) (x : Ring) : Ring → Prop
  | move (y : Ring) (h : RingMove x y) : RingStep c s0 q mode x y
  | traffic (steered : List Steered) (inFlight : Nat) : RingStep c s0 q mode x { x with steered, inFlight }
  | time (n : Nat) : RingStep c s0 q mode x { x with timer := x.timer.map (· - n) }
  | opens (openMode : OpenMode) (run : mode = .run) (first : (s0.ring q).phase = .closed) (from_ : x.phase = .closed)
      (cells : x.config.cells ≠ 0) (score : x.score < 160) :
      RingStep c s0 q mode x { x.zeroed.scanReset with
        phase := .openingDrain, openMode := some openMode, markRetry := false, outstanding := [] }
  | rollsBack (from_ : x.phase = .active) :
      RingStep c s0 q mode x { x with
        phase := .rollingDrain, cursor := none, expected := none, restored := 0, restoreRetry := false,
        markRetry := false, timer := none }
  | configures (cfg : RingConfig) (by_ : ∃ p, c = .configureRing p) (at_ : x.phase = .closed)
      (cells : cfg.cells = 0 ∨ 16 ≤ cfg.cells) : RingStep c s0 q mode x { x.zeroed with config := cfg }
  | setsInterval (code : Fin 6) (by_ : ∃ p, c = .setInterval p) :
      RingStep c s0 q mode x { x with
        config := { x.config with interval := code }
        timer := if x.phase = .active then intervalTime code else x.timer }
  | breaks (y : Ring) (cause : Cause) (steered : List Steered) (may : x.phase.mayBreak = true)
      (h : BreakFrom s0 q x y) : RingStep c s0 q mode x { y.broken cause with steered }
  | resets : RingStep c s0 q mode x x.ringReset
  | device (by_ : c = .deviceReset) : RingStep c s0 q mode x Ring.reset

section
variable (s : State) (q r : RingId)

/-! ### The rings after each act -/

theorem becomeBroken_ring_self (cause : Cause) : (s.becomeBroken r cause).ring r =
    { (s.ring r).broken cause with steered := (s.ring r).steered.filter fun p => !s.steerWaits r p } := by
  simp only [State.becomeBroken, State.askPass_ring, State.raise_ring, State.decideAll_ring]
  exact State.setRing_ring_self ..

theorem onlyRing_ring {t : State} (h : Safety.OnlyRing r s t) (other : q ≠ r) : t.ring q = s.ring q := by
  obtain ⟨-, -, -, -, -, -, -, -, -, -, -, -, -, -, -, -, rings⟩ := h
  exact rings q other

theorem resetRing_ring_self : (s.resetRing r).ring r = (s.ring r).ringReset := by
  simp only [State.resetRing, State.askPass_ring, State.raise_ring, State.decideAll_ring]
  exact State.setRing_ring_self ..

theorem forwardCtx_ring (k : CtxId) : (s.forwardCtx k).ring q = s.ring q := by
  unfold State.forwardCtx
  split
  · rfl
  · split
    · rfl
    · rw [State.decide_ring]; rfl

theorem answerCtx_ring (k : CtxId) : (s.answerCtx k).ring q = s.ring q := by
  unfold State.answerCtx
  split <;> rfl

theorem frontierRise_ring : (s.frontierRise r).ring q = s.ring q := by
  simp only [State.frontierRise, State.decideAll_ring]
  rfl

theorem issueHost_ring : s.issueHost.ring q = s.ring q := by
  unfold State.issueHost State.fillRoom
  split
  · rfl
  · simp only
    split <;> split <;> (try split) <;> rfl

theorem hostMemoryResponse_ring (t : HostTag) (st : MemStatus) (data : List Byte) :
    (s.hostMemoryResponse t st data).ring q = s.ring q := by
  unfold State.hostMemoryResponse
  split
  · rfl
  · split
    · simp only
      split <;> rfl
    · rfl

theorem countWrite_ring (t : HostTag) : ∃ n, (s.countWrite r t).ring q = { s.ring q with inFlight := n } := by
  unfold State.countWrite
  split
  · exact ⟨_, rfl⟩
  · rw [State.setTag_ring, State.modRing_eq, State.setRing_ring]
    split
    · next h => subst h; exact ⟨_, rfl⟩
    · exact ⟨_, rfl⟩

theorem Placed.ring {s u : State} {req : HostRequest} (h : Placed s req u) (q : RingId) :
    ∃ steered inFlight, u.ring q = { s.ring q with steered, inFlight } := by
  cases h with
  | answered st data => exact ⟨_, _, rfl⟩
  | decided src => exact ⟨_, _, State.decide_ring ..⟩
  | counted src r =>
    obtain ⟨n, hn⟩ := countWrite_ring s q r req.tag
    exact ⟨_, n, (State.decide_ring ..).trans hn⟩
  | steered r cell =>
    rw [State.setRing_ring]
    split
    · next h => subst h; exact ⟨_, _, rfl⟩
    · exact ⟨_, _, rfl⟩
  | context k r free active =>
    obtain ⟨n, hn⟩ := countWrite_ring (s.setCtx k (some
      { req, ring := some r, phase := .preRead, image := none, reserved := none, retryUsed := false,
        access := .waiting, stopped := false })) q r req.tag
    exact ⟨_, n, hn⟩

theorem afterReturn_ring (p : HostResponse) (ps : List HostResponse) :
    ∃ n, (s.afterReturn p ps).ring q = { s.ring q with inFlight := n } := by
  unfold State.afterReturn
  simp only
  split
  · exact ⟨_, freeCarrier_ring ..⟩
  · rw [freeCarrier_ring, State.modRing_eq, State.setRing_ring]
    split
    · next h => subst h; exact ⟨_, rfl⟩
    · exact ⟨_, rfl⟩

theorem inDeviceReset_ring : s.inDeviceReset.ring q = Ring.reset := by
  fin_cases q <;> rfl

end

/-- What an elementary act can make of a ring. -/
theorem Act.ringStep {c : Instr} {s0 s t : State} (h : Act c s0 s t) (q : RingId) :
    RingStep c s0 q s.mode (s.ring q) (t.ring q) := by
  have same {y : Ring} (h : y = s.ring q) : RingStep c s0 q s.mode (s.ring q) y := by
    rw [h]
    exact .move _ (.books _ (Ring.SameBooks.refl _))
  have set (r : RingId) (y : Ring) (h : RingStep c s0 r s.mode (s.ring r) y) :
      RingStep c s0 q s.mode (s.ring q) ((s.setRing r y).ring q) := by
    rw [State.setRing_ring]
    split
    · next e => rwa [e]
    · exact same rfl
  have traffic {u : State} (h : ∃ steered inFlight, u.ring q = { s.ring q with steered, inFlight }) :
      RingStep c s0 q s.mode (s.ring q) (u.ring q) := by
    obtain ⟨a, b, h⟩ := h
    rw [h]
    exact .traffic a b
  cases h with
  | quiet t h => exact same (congrArg (·.get q) h.rings)
  | raises b => exact same (State.raise_ring ..)
  | time n => rw [State.passTime_ring]; exact .time n
  | ring r y h => exact set r y (.move y h)
  | opens r mode run first from_ cells score held => exact set r _ (.opens mode run first from_ cells score)
  | rollsBack r from_ held => exact set r _ (.rollsBack from_)
  | configures r cfg by_ at_ cells => exact set r _ (.configures cfg by_ at_ cells)
  | setsInterval r code by_ => exact set r _ (.setsInterval code by_)
  | breaks r x cause may h =>
    by_cases e : q = r
    · subst e
      rw [becomeBroken_ring_self, State.setRing_ring_self]
      exact .breaks x cause _ may h
    · rw [onlyRing_ring _ q r (Laws.becomeBroken_only r (s.setRing r x) cause) e]
      exact same (State.setRing_ring_ne _ _ _ _ e)
  | resets r =>
    by_cases e : q = r
    · subst e
      rw [resetRing_ring_self]
      exact .resets
    · exact same (onlyRing_ring _ q r (Laws.resetRing_only r s) e)
  | forwards k => exact same (forwardCtx_ring ..)
  | answersCtx k h => exact same (answerCtx_ring ..)
  | context k y z held h => exact same rfl
  | rises r by_ => exact same (frontierRise_ring ..)
  | retries r => exact same (retryHeld_ring ..)
  | arrives req u free h => exact traffic (h.ring q)
  | arrivesHeld e free room h => exact same rfl
  | leaves ahead e es u at_ h => exact traffic (h.ring q)
  | stays ahead e e' es at_ req h => exact same rfl
  | steerEnds r p u held h =>
    obtain ⟨a, b, h⟩ := h.placed.ring q
    refine traffic ⟨a, b, h.trans ?_⟩
    rw [State.setRing_ring]
    split
    · next e => subst e; rfl
    · rfl
  | returns p ps h =>
    obtain ⟨n, h⟩ := afterReturn_ring s q p ps
    exact traffic ⟨_, n, h⟩
  | issues => exact same (issueHost_ring ..)
  | memory t st data => exact same (hostMemoryResponse_ring ..)
  | loads i rec empty len => exact same rfl
  | takes i rec next => exact same rfl
  | answers i rec st result held => exact same rfl
  | takesFrame f free h => exact same rfl
  | endsFrame => exact same rfl
  | collects i rec h => exact same rfl
  | reads by_ => exact same rfl
  | mode m by_ h => exact same rfl
  | region i g by_ => exact same rfl
  | device by_ => rw [inDeviceReset_ring]; exact .device by_

/-- A property of one ring that every elementary act keeps is kept by a chain of them. -/
theorem Acts.keepsRing {c : Instr} {s0 s t : State} {P : Ring → Prop} (q : RingId) (h : Acts c s0 s t)
    (keep : ∀ mode x y, RingStep c s0 q mode x y → P x → P y) (hs : P (s.ring q)) : P (t.ring q) :=
  h.keeps (P := fun u => P (u.ring q)) (fun u _ act => keep u.mode _ _ (act.ringStep q)) hs

end Sys2Proof.Machine

/-! The laws of a ring by itself under one elementary act: the score (R148), the fields of an operation (R9, R72, R73, R89),
the numbering (R8, R13, R18, R19) and the live set (R10, R13). -/

namespace Sys2Proof.Machine

open Safety

/-! ### The fault score (R148) -/

/-- The score law of one ring. -/
def Ring.ScoreFine (x : Ring) : Prop := x.score ≤ 255 ∧ (160 ≤ x.score → x.phase = .broken ∨ x.phase = .closed)

theorem scoreLaw_iff (s : State) : ScoreLaw s ↔ ∀ r, (s.ring r).ScoreFine := Iff.rfl

theorem Ring.SameBooks.scoreFine {x y : Ring} (h : x.SameBooks y) (fine : x.ScoreFine) : y.ScoreFine := by
  unfold Ring.ScoreFine at fine ⊢
  rwa [h.score, h.phase]

/-- Outside CLOSED and BROKEN the score is below 160. -/
theorem Ring.ScoreFine.low {x : Ring} (fine : x.ScoreFine) (closed : x.phase ≠ .closed) (broken : x.phase ≠ .broken) :
    x.score < 160 := by
  by_contra high
  rcases fine.2 (by omega) with h | h
  · exact broken h
  · exact closed h

theorem Ring.scoreFits.le {x : Ring} {n : Nat} (fits : x.scoreFits n) (fine : x.ScoreFine) : n ≤ 255 :=
  fits.elim id fun h => h.trans fine.1

theorem withdrawMark_score (x : Ring) : x.withdrawMark.score = x.score := by
  unfold Ring.withdrawMark
  split <;> rfl

theorem offer_score (x : Ring) (line : Addr) (cell : Nat) : (x.offer line cell).score = x.score := by
  unfold Ring.offer
  split
  · rfl
  · split <;> rfl

theorem offer_phase (x : Ring) (line : Addr) (cell : Nat) : (x.offer line cell).phase = x.phase := by
  unfold Ring.offer
  split
  · rfl
  · split <;> rfl

/-- A ring that keeps its score below 160. -/
theorem Ring.ScoreFine.of_low {x y : Ring} (score : y.score = x.score) (low : x.score < 160) : y.ScoreFine :=
  ⟨by omega, by omega⟩

theorem RingMove.scoreFine {x y : Ring} (h : RingMove x y) (fine : x.ScoreFine) : y.ScoreFine := by
  have low {p : Phase} (at_ : x.phase = p) (closed : p ≠ .closed) (broken : p ≠ .broken) : x.score < 160 :=
    fine.low (at_ ▸ closed) (at_ ▸ broken)
  cases h with
  | books y h => exact h.scoreFine fine
  | scores n fits high =>
    refine ⟨fits.le fine, fun h => ?_⟩
    rcases high h with h | h | h
    · exact fine.2 h
    · exact .inr h
    · exact .inl h
  | startsCheckpoint reason from_ => exact .of_low rfl (from_.elim (low · (by decide) (by decide)) (·.2))
  | startsClose from_ => exact .of_low rfl (from_.elim (low · (by decide) (by decide)) (·.2))
  | marksCheckpoint reason released at_ more idle => exact .of_low rfl (low at_ (by decide) (by decide))
  | marksRollback released at_ more => exact .of_low rfl (low at_ (by decide) (by decide))
  | marksFresh at_ => exact .of_low rfl (low at_ (by decide) (by decide))
  | restores cell seq at_ idle => exact .of_low rfl (low at_ (by decide) (by decide))
  | stepsBack cell at_ => exact .of_low rfl (low at_ (by decide) (by decide))
  | searches at_ => exact .of_low rfl (low at_ (by decide) (by decide))
  | finds m reads at_ valid => exact .of_low rfl (low at_ (by decide) (by decide))
  | walks part cell n at_ room => exact .of_low rfl (low at_ (by decide) (by decide))
  | recovers m n at_ found room => exact .of_low rfl (low at_ (by decide) (by decide))
  | completesCheckpoint m at_ held => exact .of_low rfl (low at_ (by decide) (by decide))
  | completesRollback m at_ held => exact .of_low rfl (low at_ (by decide) (by decide))
  | completesFresh m at_ held => exact .of_low rfl (low at_ (by decide) (by decide))
  | failsOpen n at_ fits => exact ⟨fits.le fine, fun _ => .inr rfl⟩
  | closes at_ idle => exact ⟨fine.1, fun _ => .inr rfl⟩
  | grants line at_ more room =>
    refine .of_low (offer_score ..) ?_
    rcases at_ with h | h | h | h <;> exact low h (by decide) (by decide)
  | disarmsHigh => exact fine
  | disarmsFull => exact fine
  | takesReport seq =>
    unfold Ring.takeReport
    split <;> exact fine

theorem BreakFrom.score_le {s0 : State} {r : RingId} {x y : Ring} (h : BreakFrom s0 r x y) (fine : x.ScoreFine) :
    y.score ≤ 255 := by
  cases h with
  | plain n fits noMark => exact fits.le fine
  | withdrawn n fits at_ => rw [withdrawMark_score]; exact fits.le fine

theorem RingStep.scoreFine {c : Instr} {s0 : State} {q : RingId} {mode : Mode} {x y : Ring}
    (h : RingStep c s0 q mode x y) (fine : x.ScoreFine) : y.ScoreFine := by
  cases h with
  | move y h => exact h.scoreFine fine
  | traffic steered inFlight => exact fine
  | time n => exact fine
  | opens openMode run first from_ cells score => exact .of_low rfl score
  | rollsBack from_ => exact .of_low rfl (fine.low (by simp [from_]) (by simp [from_]))
  | configures cfg by_ at_ cells => exact fine
  | setsInterval code by_ => exact fine
  | breaks y cause steered may h => exact ⟨h.score_le fine, fun _ => .inl rfl⟩
  | resets => exact ⟨Nat.zero_le _, fun _ => .inr rfl⟩
  | device by_ => exact ⟨Nat.zero_le _, fun _ => .inr rfl⟩

/-! ### The fields of an operation (R9, R72, R73, R89) -/

theorem Ring.SameBooks.settled {x y : Ring} (h : x.SameBooks y) (fine : Settled x) : Settled y := by
  unfold Settled at fine ⊢
  rwa [h.timer, h.phase, h.reason, h.cursor, h.openMode, h.outstanding, h.touched, h.complete, h.highArmed, h.fullArmed,
    h.epoch, h.mark, h.newest]

theorem epochAfter_ne_zero (e : Epoch) : epochAfter e ≠ 0#32 := by
  unfold epochAfter
  split
  · decide
  · assumption

theorem offer_eq (x : Ring) (line : Addr) (cell : Nat) :
    x.offer line cell = { x with touched := (x.offer line cell).touched, complete := (x.offer line cell).complete } := by
  unfold Ring.offer
  split
  · rfl
  · split <;> rfl

theorem takeReport_eq (x : Ring) (seq : Seq) :
    x.takeReport seq = { x with outstanding := (x.takeReport seq).outstanding, frontier := (x.takeReport seq).frontier } := by
  unfold Ring.takeReport
  split <;> rfl

/-- A report finds no entry in an empty list. -/
theorem takeReport_of_nil (x : Ring) (seq : Seq) (h : x.outstanding = []) : x.takeReport seq = x := by
  simp [Ring.takeReport, h]

theorem Phase.state_opening {p : Phase} (h : p.state = .opening) : p = .openingDrain ∨ p = .openingScan ∨ p = .openingMark := by
  cases p <;> simp_all [Phase.state]

theorem RingMove.settled {x y : Ring} (h : RingMove x y) (fine : Settled x) : Settled y := by
  cases h with
  | books y h => exact h.settled fine
  | takesReport seq =>
    rw [takeReport_eq]
    have empty := takeReport_of_nil x seq
    simp_all [Settled]
  | grants line at_ more room =>
    unfold Ring.grantRecord
    rw [offer_eq]
    rcases at_ with at_ | at_ | at_ | at_ <;> simp_all [Settled, Phase.state]
  | stepsBack cell at_ => simp_all [Settled, Phase.state, Ring.recordRestored, Ring.markRestored]
  | marksCheckpoint reason released at_ more idle =>
    simp_all [Settled, Phase.state, Ring.reserveMark, epochAfter_ne_zero]
  | marksRollback released at_ more => simp_all [Settled, Phase.state, Ring.reserveMark, epochAfter_ne_zero]
  | marksFresh at_ => simp_all [Settled, Phase.state, Ring.reserveMark]
  | recovers m n at_ found room => simp_all [Settled, Phase.state, Ring.scanReset, Ring.activated]
  | completesCheckpoint m at_ held => simp_all [Settled, Phase.state, Ring.newEpoch, Ring.activated]
  | completesRollback m at_ held => simp_all [Settled, Phase.state, Ring.newEpoch, Ring.activated]
  | completesFresh m at_ held => simp_all [Settled, Phase.state, Ring.newEpoch, Ring.activated]
  | failsOpen n at_ fits =>
    rcases Phase.state_opening at_ with at_ | at_ | at_ <;> simp_all [Settled, Phase.state, Ring.zeroed, Ring.scanReset]
  | scores n fits high => exact fine
  | startsCheckpoint reason from_ => rcases from_ with from_ | ⟨from_, _⟩ <;> simp_all [Settled, Phase.state]
  | startsClose from_ => rcases from_ with from_ | ⟨from_, _⟩ <;> simp_all [Settled, Phase.state]
  | restores cell seq at_ idle => simp_all [Settled, Phase.state]
  | searches at_ => simp_all [Settled, Phase.state]
  | finds m reads at_ valid => simp_all [Settled, Phase.state]
  | walks part cell n at_ room => simp_all [Settled, Phase.state]
  | closes at_ idle => simp_all [Settled, Phase.state]
  | disarmsHigh => simp_all [Settled]
  | disarmsFull => simp_all [Settled]

theorem withdrawMark_eq (x : Ring) :
    x.withdrawMark = { x with
      produce := x.withdrawMark.produce, live := x.withdrawMark.live, nextSeq := x.withdrawMark.nextSeq
      mark := none } := by
  unfold Ring.withdrawMark
  split
  · next h => rw [← h]
  · rfl

/-- A ring that may break is neither CLOSED nor OPENING nor BROKEN (09 section 9.1). -/
theorem Phase.mayBreak_iff (p : Phase) : p.mayBreak = true ↔ p ≠ .closed ∧ p.state ≠ .opening ∧ p ≠ .broken := by
  cases p <;> simp [Phase.mayBreak, Phase.state]

theorem RingStep.settled {c : Instr} {s0 : State} {q : RingId} {mode : Mode} {x y : Ring}
    (h : RingStep c s0 q mode x y) (fine : Settled x) : Settled y := by
  cases h with
  | move y h => exact h.settled fine
  | traffic steered inFlight => exact fine
  | time n =>
    obtain ⟨timer, rest⟩ := fine
    exact ⟨fun h => timer (by simpa using h), rest⟩
  | opens openMode run first from_ cells score =>
    simp_all [Settled, Phase.state, Ring.zeroed, Ring.scanReset]
  | rollsBack from_ => simp_all [Settled, Phase.state]
  | configures cfg by_ at_ cells => simp_all [Settled, Phase.state, Ring.zeroed]
  | setsInterval code by_ =>
    by_cases at_ : x.phase = .active <;> simp_all [Settled, Phase.state]
  | breaks y cause steered may h =>
    rw [Phase.mayBreak_iff] at may
    cases h with
    | plain n fits noMark => simp_all [Settled, Phase.state, Ring.broken]
    | withdrawn n fits at_ =>
      rw [withdrawMark_eq]
      simp_all [Settled, Phase.state, Ring.broken]
  | resets => simp [Settled, Ring.ringReset, Ring.reset]
  | device by_ => simp [Settled, Ring.reset, Phase.state]

end Sys2Proof.Machine

/-! What an elementary act leaves of the mode and the regions, and the statements on ring states, configurations and
settings. -/

namespace Sys2Proof.Machine

open Safety

section
variable (s : State) (r : RingId)

/-- The settings of the classifier: the device mode and the region table. -/
def State.settings : Mode × Vector Region 12 := (s.mode, s.regions)

theorem onlyRing_settings {t : State} (h : OnlyRing r s t) : t.settings = s.settings := by
  obtain ⟨-, -, -, mode, regions, -⟩ := h
  simp [State.settings, mode, regions]

theorem countWrite_settings (t : HostTag) : (s.countWrite r t).settings = s.settings := by
  unfold State.countWrite
  split <;> rfl

theorem Placed.settings {s u : State} {q : HostRequest} (h : Placed s q u) : u.settings = s.settings := by
  cases h with
  | answered st data => rfl
  | decided src => exact onlyRing_settings _ 0 (Laws.decide_only ..)
  | counted src r => exact (onlyRing_settings _ 0 (Laws.decide_only ..)).trans (countWrite_settings ..)
  | steered r cell => rfl
  | context k r free active => exact countWrite_settings ..

theorem freeCarrier_settings (t : HostTag) : (s.freeCarrier t).settings = s.settings := by
  unfold State.freeCarrier
  split <;> rfl

theorem issueHost_settings : s.issueHost.settings = s.settings := by
  unfold State.issueHost State.fillRoom
  split
  · rfl
  · simp only
    split <;> split <;> (try split) <;> rfl

theorem hostMemoryResponse_settings (t : HostTag) (st : MemStatus) (data : List Byte) :
    (s.hostMemoryResponse t st data).settings = s.settings := by
  unfold State.hostMemoryResponse
  split
  · rfl
  · split
    · simp only
      split <;> rfl
    · rfl

/-- Only SET-MODE, WRITE-REGION and a device reset touch the mode and the regions. -/
theorem Act.settings {c : Instr} {s0 s t : State} (h : Act c s0 s t) :
    t.settings = s.settings ∨
    ((∃ p, c = .setMode p) ∧ ∃ m, t = { s with mode := m } ∧ (m = .config → ∀ r, (s.ring r).phase = .closed)) ∨
    ((∃ p, c = .writeRegion p) ∧ t.mode = s.mode) ∨ c = .deviceReset ∧ t = s.inDeviceReset := by
  cases h with
  | mode m by_ closed => exact .inr (.inl ⟨by_, m, rfl, closed⟩)
  | region i g by_ => exact .inr (.inr (.inl ⟨by_, rfl⟩))
  | device by_ => exact .inr (.inr (.inr ⟨by_, rfl⟩))
  | quiet t h => exact .inl (by simp [State.settings, h.mode, h.regions])
  | raises b => exact .inl (onlyRing_settings s 0 (Laws.raise_only ..))
  | breaks r x cause may h => exact .inl (onlyRing_settings (s.setRing r x) r (Laws.becomeBroken_only r (s.setRing r x) cause))
  | resets r => exact .inl (onlyRing_settings s r (Laws.resetRing_only ..))
  | forwards k => exact .inl (onlyRing_settings s 0 (Laws.forwardCtx_only ..))
  | answersCtx k h => exact .inl (onlyRing_settings s 0 (Laws.answerCtx_only ..))
  | rises r by_ => exact .inl (onlyRing_settings _ 0 (Laws.decideAll_only ..))
  | retries r => exact .inl (onlyRing_settings s r (Laws.retryHeld_only ..))
  | arrives q u free h => exact .inl h.settings
  | leaves ahead e es u at_ h => exact .inl h.settings
  | steerEnds r q u held h => exact .inl h.placed.settings
  | returns p ps h =>
    refine .inl ?_
    unfold State.afterReturn
    simp only
    split <;> exact freeCarrier_settings ..
  | issues => exact .inl (issueHost_settings s)
  | memory t st data => exact .inl (hostMemoryResponse_settings ..)
  | time n => exact .inl rfl
  | ring r y h => exact .inl rfl
  | opens r mode run first from_ cells score held => exact .inl rfl
  | rollsBack r from_ held => exact .inl rfl
  | configures r cfg by_ at_ cells => exact .inl rfl
  | setsInterval r code by_ => exact .inl rfl
  | context k y z held h => exact .inl rfl
  | arrivesHeld e free room h => exact .inl rfl
  | stays ahead e e' es at_ req h => exact .inl rfl
  | loads i rec empty len => exact .inl rfl
  | takes i rec next => exact .inl rfl
  | answers i rec st result held => exact .inl rfl
  | takesFrame f free h => exact .inl rfl
  | endsFrame => exact .inl rfl
  | collects i rec h => exact .inl rfl
  | reads by_ => exact .inl rfl

end

/-! ### The device mode (R25) -/

theorem RingMove.closed {x y : Ring} (h : RingMove x y) (closed : x.phase = .closed) : y.phase = .closed := by
  cases h with
  | books y h => rw [h.phase, closed]
  | takesReport seq => rw [takeReport_eq]; exact closed
  | grants line at_ more room => rcases at_ with h | h | h | h <;> simp [closed] at h
  | startsCheckpoint reason from_ => rcases from_ with h | ⟨h, _⟩ <;> simp [closed] at h
  | startsClose from_ => rcases from_ with h | ⟨h, _⟩ <;> simp [closed] at h
  | scores | disarmsHigh | disarmsFull => exact closed
  | failsOpen | closes => rfl
  | _ => simp_all

/-- A CLOSED ring leaves CLOSED only by an open, in RUN, that finds it CLOSED when the command begins (R127). -/
theorem RingStep.closed {c : Instr} {s0 : State} {q : RingId} {mode : Mode} {x y : Ring}
    (h : RingStep c s0 q mode x y) (closed : x.phase = .closed) :
    y.phase = .closed ∨ mode = .run ∧ (s0.ring q).phase = .closed := by
  cases h with
  | move y h => exact .inl (h.closed closed)
  | opens openMode run first from_ cells score => exact .inr ⟨run, first⟩
  | rollsBack from_ => simp [closed] at from_
  | breaks y cause steered may h => simp [closed, Phase.mayBreak] at may
  | traffic | time | configures | setsInterval => exact .inl closed
  | resets | device => exact .inl rfl

theorem Act.modeLaw {c : Instr} {s0 s t : State} (h : Act c s0 s t) (law : ModeLaw s) : ModeLaw t := by
  intro config r
  have stays (mode : s.mode = .config) : (t.ring r).phase = .closed := by
    rcases (h.ringStep r).closed (law mode r) with h | ⟨h, _⟩
    · exact h
    · simp [mode] at h
  rcases h.settings with same | ⟨-, m, rfl, closed⟩ | ⟨-, same⟩ | ⟨-, rfl⟩
  · exact stays (by rw [← config]; exact (congrArg Prod.fst same).symm)
  · exact closed config r
  · exact stays (same ▸ config)
  · rw [inDeviceReset_ring]; rfl

/-- Settles O55: each law is kept by every elementary act. -/
theorem everyStepKeepsTheRingStates : Obligations.EveryStepKeepsTheRingStates := by
  intro s t h
  obtain ⟨c, rest, acts⟩ := step_acts s t h
  refine ⟨fun law r => ?_, fun law => ?_, fun law r => ?_⟩
  · exact acts.keepsRing (P := Ring.ScoreFine) r (fun _ _ _ h => h.scoreFine) (law r)
  · exact acts.keeps (P := ModeLaw) (fun _ _ h => h.modeLaw) law
  · exact acts.keepsRing (P := Settled) r (fun _ _ _ h => h.settled) (law r)

end Sys2Proof.Machine

/-! Non-interference: the commands and outcomes of one ring, the settings and the configurations. -/

namespace Sys2Proof.Machine

open Safety

/-! ### Outcomes stay in their ring (R149) -/

section
variable (s : State) (r : RingId) (k : CtxId)

/-- A chain of acts of which each stays in the ring stays in it. -/
theorem searchTail_only (u : State) (y : Ring) :
    OnlyRing r u (let v := (u.setRing r y).searchNext r
      if (v.ring r).scanReads = 0 then v.searchEnd r else v) := by
  have next := (Laws.setRing_only r u y).trans (Laws.searchNext_only r _)
  simp only
  split
  · exact next.trans (Laws.searchEnd_only ..)
  · exact next

theorem endRestoreHeader_only (e : AccessEnd) : OnlyRing r s (s.endRestoreHeader r e) := by
  unfold State.endRestoreHeader
  refine .trans (Laws.report_only r s e.ok) ?_
  simp only
  split
  · split
    · exact (Laws.setRing_only ..).trans (Laws.requestService_only ..)
    · exact Laws.breakRing_only ..
  · exact Laws.drainTest_only ..

theorem endRestoreImage_only (e : AccessEnd) : OnlyRing r s (s.endRestoreImage r e) := by
  unfold State.endRestoreImage
  refine .trans (Laws.report_only r s e.ok) ?_
  simp only
  split
  · split
    · split
      · exact (Laws.setRing_only ..).trans (Laws.requestService_only ..)
      · exact Laws.breakRing_only ..
    · exact Laws.breakRing_only ..
  · exact Laws.drainTest_only ..

theorem endRestoreWrite_only (e : AccessEnd) : OnlyRing r s (s.endRestoreWrite r e) := by
  unfold State.endRestoreWrite
  refine .trans (Laws.report_only r s e.ok) ?_
  simp only
  split
  · split
    · exact (Laws.setRing_only ..).trans (Laws.restoreNext_only ..)
    · split
      · exact Laws.breakRing_only ..
      · exact (Laws.setRing_only ..).trans (Laws.requestService_only ..)
  · exact Laws.drainTest_only ..

theorem steerFell_only (t : HostTag) : OnlyRing r s (s.steerFell r t) :=
  ((Laws.modRing_only ..).trans (Laws.restoreEndTest_only ..)).trans (Laws.drainTest_only ..)

theorem endSteer_only (t : HostTag) (e : AccessEnd) : OnlyRing r s (s.endSteer r t e) := by
  have answered (u : State) (st : HostStatus) (d : List Byte) : OnlyRing r u ((u.respond t st d).steerFell r t) :=
    (Laws.respond_only ..).trans (steerFell_only ..)
  unfold State.endSteer
  refine .trans (Laws.report_only r s e.ok) ?_
  simp only
  split
  · exact .refl ..
  · split
    · split
      · exact answered ..
      · split
        · exact (Laws.setRing_only ..).trans (Laws.requestJournal_only ..)
        · split <;> exact answered ..
    · exact (Laws.decide_only ..).trans (steerFell_only ..)

theorem endSearch_only (cell : Nat) (e : AccessEnd) : OnlyRing r s (s.endSearch r cell e) := by
  unfold State.endSearch
  refine .trans (Laws.report_only r s e.ok) ?_
  simp only
  split
  · exact searchTail_only ..
  · exact .refl ..

theorem endWalkHeader_only (e : AccessEnd) : OnlyRing r s (s.endWalkHeader r e) := by
  unfold State.endWalkHeader
  refine .trans (Laws.report_only r s e.ok) ?_
  simp only
  split
  · split
    · exact (Laws.setRing_only ..).trans (Laws.requestService_only ..)
    · exact Laws.recoverComplete_only ..
  · exact .refl ..

theorem endWalkImage_only (e : AccessEnd) : OnlyRing r s (s.endWalkImage r e) := by
  unfold State.endWalkImage
  refine .trans (Laws.report_only r s e.ok) ?_
  simp only
  split
  · split
    · exact (Laws.setRing_only ..).trans (Laws.walkNext_only ..)
    · exact Laws.recoverComplete_only ..
  · exact .refl ..

/-- An outcome of a ring controller's own access stays in the ring. -/
theorem deliver_ring_only (w : Owner) (e : AccessEnd) (own : w.ring? = some r) : OnlyRing r s (s.deliver w e) := by
  cases w <;> simp only [Owner.ring?, Option.some.injEq, reduceCtorEq] at own <;> subst own
  case checkpointMark => exact Laws.endCheckpointMark_only ..
  case rollbackMark => exact Laws.endRollbackMark_only ..
  case freshMark => exact Laws.endFreshMark_only ..
  case restoreHeader => exact endRestoreHeader_only ..
  case restoreImage => exact endRestoreImage_only ..
  case restoreWrite => exact endRestoreWrite_only ..
  case steerHeader | steerImage => exact endSteer_only ..
  case searchHeader => exact endSearch_only ..
  case walkHeader => exact endWalkHeader_only ..
  case walkImage => exact endWalkImage_only ..

/-- The context `k` belongs to no ring but `r`. -/
def CtxOf (s : State) (k : CtxId) (r : RingId) : Prop := ∀ q, (s.ctx k).bind (·.ring) = some q → q = r

theorem reportCtx_only (ok : Bool) (own : CtxOf s k r) : OnlyRing r s (s.reportCtx k ok) := by
  unfold State.reportCtx
  split
  · next q hq =>
    obtain rfl := own q hq
    exact Laws.report_only ..
  · exact .refl ..

theorem reportCtx_keepsCtxRings (ok : Bool) : KeepsCtxRings s (s.reportCtx k ok) := by
  unfold State.reportCtx
  split
  · exact report_keepsCtxRings s _ ok
  · exact fun _ => rfl

theorem CtxOf.afterReport {s : State} {k : CtxId} {r : RingId} (own : CtxOf s k r) (ok : Bool) :
    CtxOf (s.reportCtx k ok) k r := by
  intro q hq
  exact own q ((reportCtx_keepsCtxRings s k ok k).symm.trans hq)

theorem recordWriteFailed_only (x : Context) (again : State → State) (held : s.ctx k = some x) (own : CtxOf s k r)
    (hagain : ∀ u, OnlyRing r u (again u)) : OnlyRing r s (s.recordWriteFailed k x again) := by
  unfold State.recordWriteFailed
  split
  · exact Laws.forwardCtx_only ..
  · split
    · split
      · next q hq =>
        obtain rfl := own q (by rw [held]; exact hq)
        exact (Laws.breakRing_only ..).trans (Laws.forwardCtx_only ..)
      · exact Laws.forwardCtx_only ..
    · exact (Laws.setCtx_only ..).trans (hagain _)

theorem endPreRead_only (e : AccessEnd) (own : CtxOf s k r) : OnlyRing r s (s.endPreRead k e) := by
  unfold State.endPreRead
  refine .trans (reportCtx_only s r k e.ok own) ?_
  simp only
  split
  · exact .refl ..
  · split
    · split
      · exact Laws.answerCtx_only ..
      · split
        · exact Laws.forwardCtx_only ..
        · exact Laws.setCtx_only ..
    · exact .refl ..

theorem endImageWrite_only (e : AccessEnd) (own : CtxOf s k r) : OnlyRing r s (s.endImageWrite k e) := by
  unfold State.endImageWrite
  refine .trans (reportCtx_only s r k e.ok own) ?_
  simp only
  split
  · exact .refl ..
  · next x held =>
    split
    · split
      · exact recordWriteFailed_only _ r k x _ held (own.afterReport _) fun _ => Laws.requestJournal_only ..
      · split
        · exact Laws.forwardCtx_only ..
        · exact (Laws.setCtx_only ..).trans (Laws.requestJournal_only ..)
    · exact .refl ..

theorem endHeaderWrite_only (e : AccessEnd) (own : CtxOf s k r) : OnlyRing r s (s.endHeaderWrite k e) := by
  unfold State.endHeaderWrite
  refine .trans (reportCtx_only s r k e.ok own) ?_
  simp only
  split
  · exact .refl ..
  · next x held =>
    split
    · next q v image _ _ _ _ =>
      split
      · exact recordWriteFailed_only _ r k x _ held (own.afterReport _) fun _ => Laws.requestJournal_only ..
      · next data =>
        generalize s.reportCtx k (AccessEnd.okay data).ok = u
        have reported : OnlyRing r u { u with reports := u.reports ++ [⟨q, v.seq⟩] } :=
          ⟨rfl, rfl, rfl, rfl, rfl, rfl, rfl, rfl, rfl, rfl, rfl, rfl, rfl, rfl, rfl, rfl, fun _ _ => rfl⟩
        split
        · exact reported.trans (Laws.forwardCtx_only ..)
        · exact reported.trans (Laws.setCtx_only ..)
    · exact .refl ..

/-- An outcome of a context's own access stays in the ring of the context. -/
theorem deliver_ctx_only (w : Owner) (e : AccessEnd) (at_ : w.ctx? = some k) (own : CtxOf s k r) :
    OnlyRing r s (s.deliver w e) := by
  cases w <;> simp only [Owner.ctx?, Option.some.injEq, reduceCtorEq] at at_ <;> subst at_
  case preRead => exact endPreRead_only s r _ e own
  case imageWrite => exact endImageWrite_only s r _ e own
  case headerWrite => exact endHeaderWrite_only s r _ e own

/-! ### Commands stay in their ring (R171) -/

/-- An owner of a command that leaves the other rings as they are. -/
def OwnerOnly (owner : RingId → List Byte → State → Answer) : Prop := ∀ r rec s, OnlyRing r s (owner r rec s).state

theorem checkpointOwner_only : OwnerOnly checkpointOwner := by
  intro r rec s
  unfold checkpointOwner
  split
  · exact Laws.startCheckpoint_only ..
  · split
    · exact Laws.startCheckpoint_only ..
    · exact .refl ..
  all_goals exact .refl ..

theorem closeOwner_only : OwnerOnly closeOwner := by
  intro r rec s
  unfold closeOwner
  split
  · exact Laws.startClose_only ..
  · split
    · exact Laws.startClose_only ..
    · exact .refl ..
  all_goals exact .refl ..

theorem rollbackOwner_only : OwnerOnly rollbackOwner := by
  intro r rec s
  unfold rollbackOwner
  split
  · exact Laws.startRollback_only ..
  all_goals exact .refl ..

theorem openOwner_only : OwnerOnly openOwner := by
  intro r rec s
  unfold openOwner
  split
  · exact .refl ..
  · split
    · exact .refl ..
    · exact Laws.startOpen_only ..

theorem resetOwner_only : OwnerOnly resetOwner := fun r _ s => Laws.resetRing_only r s

theorem configureOwner_only : OwnerOnly configureOwner := by
  intro r rec s
  unfold configureOwner
  split
  · split
    · exact .refl ..
    · exact Laws.modRing_only ..
  · exact .refl ..

theorem setIntervalOwner_only : OwnerOnly setIntervalOwner := by
  intro r rec s
  unfold setIntervalOwner
  split
  · exact .refl ..
  · exact Laws.modRing_only ..

theorem readRingOwner_only : OwnerOnly readRingOwner := fun _ _ _ => .refl ..

theorem execute_ring_other (part : CommandPart) (i : SlotId) (rec : List Byte) (code : CommandCode)
    (owner : RingId → List Byte → State → Answer) (only : OwnerOnly owner) (at_ : s.commandAt part = some (i, rec))
    (hr : byteAt rec 1 = r.val) (q : RingId) (other : q ≠ r) : (s.execute part code owner).ring q = s.ring q := by
  by_cases code_ : commandOf (byteAt rec 0) = some code
  · rw [execute_eq s part i rec code owner r at_ code_ (ringOf_some rec r hr), answerSlot_ring]
    exact onlyRing_ring s q r (only r rec s) other
  · rw [execute_other s part i rec code owner at_ code_]

theorem running_ring_other (u t : State) (q : RingId) (h : running s u = .next t) (same : u.ring q = s.ring q) :
    t.ring q = s.ring q := by
  unfold running at h
  obtain rfl := Host.Outcome.next.inj h
  split
  · rfl
  · exact same

end

/-! ### The configurations (R4) -/

theorem BreakFrom.config {s0 : State} {r : RingId} {x y : Ring} (h : BreakFrom s0 r x y) : y.config = x.config := by
  cases h with
  | plain n fits noMark => rfl
  | withdrawn n fits at_ => rw [withdrawMark_eq]

theorem RingMove.config {x y : Ring} (h : RingMove x y) : y.config = x.config := by
  cases h with
  | books y h => exact h.config
  | grants line at_ more room =>
    show (x.offer line x.produce).config = x.config
    rw [offer_eq]
  | takesReport seq => rw [takeReport_eq]
  | _ => rfl

/-- Only CONFIGURE-RING, SET-INTERVAL and a device reset change the configuration of a ring. -/
theorem RingStep.config {c : Instr} {s0 : State} {q : RingId} {mode : Mode} {x y : Ring}
    (h : RingStep c s0 q mode x y) (configure : ∀ p, c ≠ .configureRing p ∧ c ≠ .setInterval p)
    (device : c ≠ .deviceReset) : y.config = x.config := by
  cases h with
  | move y h => exact h.config
  | configures cfg by_ at_ cells => obtain ⟨p, hp⟩ := by_; exact absurd hp (configure p).1
  | setsInterval code by_ => obtain ⟨p, hp⟩ := by_; exact absurd hp (configure p).2
  | breaks y cause steered may h => exact h.config
  | device by_ => exact absurd by_ device
  | _ => rfl

/-- Settles O60: the acts of one ring by OnlyRing, the settings and the configurations by the acts of a command. -/
theorem actsStayInTheirRing : Obligations.ActsStayInTheirRing := by
  refine ⟨fun s t part i rec r c mem at_ hr h q other => ?_, fun s w e r own q other => ?_, fun c s t h device => ?_⟩
  · have same (code : CommandCode) (owner : RingId → List Byte → State → Answer) (only : OwnerOnly owner)
        (h : running s (s.execute part code owner) = .next t) : t.ring q = s.ring q :=
      running_ring_other s _ t q h (execute_ring_other s r part i rec code owner only at_ hr q other)
    simp only [List.mem_cons, List.not_mem_nil, or_false] at mem
    rcases mem with rfl | rfl | rfl | rfl | rfl | rfl | rfl | rfl
    · exact same _ _ checkpointOwner_only h
    · exact same _ _ rollbackOwner_only h
    · exact same _ _ openOwner_only h
    · exact same _ _ closeOwner_only h
    · exact same _ _ resetOwner_only h
    · exact same _ _ configureOwner_only h
    · exact same _ _ readRingOwner_only h
    · exact same _ _ setIntervalOwner_only h
  · refine onlyRing_ring s q r ?_ other
    rcases own with own | ⟨k, x, at_, held, own⟩
    · exact deliver_ring_only s r w e own
    · refine deliver_ctx_only s r k w e at_ fun p hp => ?_
      rw [held] at hp
      exact Option.some.inj (hp.symm.trans own)
  · have acts := exec_acts s t h
    refine ⟨fun setMode => ?_, fun writeRegion => ?_, fun configure r => ?_⟩
    · refine acts.keeps (P := fun u => u.mode = s.mode) (fun u v act hu => ?_) rfl
      rcases act.settings with same | ⟨⟨p, hp⟩, -⟩ | ⟨-, same⟩ | ⟨hc, -⟩
      · exact (congrArg Prod.fst same).trans hu
      · exact absurd hp (setMode p)
      · exact same.trans hu
      · exact absurd hc device
    · refine acts.keeps (P := fun u => u.regions = s.regions) (fun u v act hu => ?_) rfl
      rcases act.settings with same | ⟨-, m, rfl, -⟩ | ⟨⟨p, hp⟩, -⟩ | ⟨hc, -⟩
      · exact (congrArg Prod.snd same).trans hu
      · exact hu
      · exact absurd hp (writeRegion p)
      · exact absurd hc device
    · exact acts.keepsRing (P := fun x => x.config = (s.ring r).config) r
        (fun _ x y h hx => (h.config configure device).trans hx) rfl

end Sys2Proof.Machine

/-! What the shared acts leave unchanged: each as an equation that names everything it can change. -/

namespace Sys2Proof.Machine

section
variable (s : State) (r : RingId) (k : CtxId) (t : HostTag)

/-! ### Everything an act can change -/

theorem askPass_eq : s.askPass = { s with passAsked := s.askPass.passAsked } := rfl

theorem countWrite_eq : s.countWrite r t =
    { s with rings := (s.countWrite r t).rings, tags := (s.countWrite r t).tags } := by
  unfold State.countWrite
  split <;> rfl

theorem freeCarrier_eq : s.freeCarrier t =
    { s with contexts := (s.freeCarrier t).contexts, passAsked := (s.freeCarrier t).passAsked } := by
  unfold State.freeCarrier
  split <;> rfl

theorem issueHost_eq : s.issueHost =
    { s with
      forward := s.issueHost.forward, decided := s.issueHost.decided, lastClass := s.issueHost.lastClass
      memOut := s.issueHost.memOut, tags := s.issueHost.tags, passAsked := s.issueHost.passAsked } := by
  unfold State.issueHost State.fillRoom
  split
  · rfl
  · simp only
    split <;> split <;> (try split) <;> rfl

theorem hostMemoryResponse_eq (st : MemStatus) (data : List Byte) : s.hostMemoryResponse t st data =
    { s with
      tags := (s.hostMemoryResponse t st data).tags, ready := (s.hostMemoryResponse t st data).ready } := by
  unfold State.hostMemoryResponse
  split
  · rfl
  · split
    · simp only
      split <;> rfl
    · rfl

theorem forwardCtx_eq : s.forwardCtx k =
    { s with
      contexts := (s.forwardCtx k).contexts, forward := (s.forwardCtx k).forward
      decided := (s.forwardCtx k).decided } := by
  unfold State.forwardCtx
  split
  · rfl
  · split
    · rfl
    · rw [State.decide_eq]; rfl

theorem answerCtx_eq : s.answerCtx k =
    { s with contexts := (s.answerCtx k).contexts, ready := (s.answerCtx k).ready } := by
  unfold State.answerCtx
  split <;> rfl

theorem frontierRise_eq : s.frontierRise r =
    { s with
      contexts := (s.frontierRise r).contexts, forward := (s.frontierRise r).forward
      decided := (s.frontierRise r).decided, script := (s.frontierRise r).script
      drawn := (s.frontierRise r).drawn } := by
  unfold State.frontierRise
  simp only
  rw [State.decideAll_eq]

theorem retryHeld_eq : s.retryHeld r =
    { s with
      hold := (s.retryHeld r).hold, ready := (s.retryHeld r).ready, script := (s.retryHeld r).script
      drawn := (s.retryHeld r).drawn } := by
  simp only [State.retryHeld, Laws.foldl_respond_eq]
  rfl

/-- Everything that gives a request in nobody's place one can change. -/
theorem Placed.eq {s u : State} {q : HostRequest} (h : Placed s q u) :
    u = { s with
      rings := u.rings, contexts := u.contexts, tags := u.tags, ready := u.ready, forward := u.forward
      decided := u.decided } := by
  cases h with
  | answered st data => rfl
  | decided src => rw [State.decide_eq]
  | counted src r => rw [State.decide_eq, countWrite_eq]
  | steered r cell => rfl
  | context k r free active => rw [countWrite_eq]; rfl

theorem afterReturn_eq (p : HostResponse) (ps : List HostResponse) : s.afterReturn p ps =
    { s with
      rings := (s.afterReturn p ps).rings, contexts := (s.afterReturn p ps).contexts
      tags := (s.afterReturn p ps).tags, ready := ps, hostOut := some p
      passAsked := (s.afterReturn p ps).passAsked } := by
  unfold State.afterReturn
  simp only
  split <;> rw [freeCarrier_eq] <;> rfl

/-! ### Breaks and ring resets -/

/-- The host requests that a break releases (R59, R124, R143). -/
def State.brokenOff (s : State) (r : RingId) : List Decided :=
  s.writesOf (·.breakReleases r) ++ ((s.ring r).steered.filter (s.steerWaits r)).map fun q => ⟨.ring r, q.req⟩

/-- The state of a break before the requests it releases are decided (R143). -/
def State.stopJournal (s : State) (r : RingId) (cause : Cause) : State :=
  let s1 := (s.withdraw fun o => s.ownedBy (·.breakReleases r) o || o.restores r || o.steers r).setRing r
    { (s.ring r).broken cause with steered := (s.ring r).steered.filter fun q => !s.steerWaits r q }
  { s1 with contexts := mapVec (Option.map fun y : Context => y.afterBreak r) s1.contexts }

theorem becomeBroken_split (cause : Cause) : s.becomeBroken r cause =
    (((s.stopJournal r cause).decideAll (s.brokenOff r)).raise (.broken r cause (s.ring r).live)).askPass := rfl

/-- The host requests that a ring reset releases (R61, R124, R141). -/
def State.resetOff (s : State) (r : RingId) : List Decided :=
  s.writesOf (·.resetReleases r) ++ (s.ring r).steered.map fun q => ⟨.ring r, q.req⟩

/-- The state of a ring reset before the requests it releases are decided (R141). -/
def State.abandon (s : State) (r : RingId) : State :=
  let mine := fun o : Owner => s.ownedBy (fun y => y.ring == some r) o || o.ring? == some r
  let s1 := ((s.withdraw mine).orphan mine).setRing r (s.ring r).ringReset
  { s1 with
    contexts := mapVec (Option.map fun y : Context => y.afterReset r) s1.contexts
    reports := s1.reports.filter fun p => p.ring != r }

theorem resetRing_split : s.resetRing r =
    (((s.abandon r).decideAll (s.resetOff r)).raise (.closed r .reset)).askPass := rfl

/-- Requests decided in one act, an event and a request for a pass. -/
theorem decideAll_raise_askPass_eq (ds : List Decided) (b : EventBody) :
    ((s.decideAll ds).raise b).askPass = { s with
      forward := (s.decideAll ds).forward, decided := (s.decideAll ds).decided
      script := (s.decideAll ds).script, drawn := (s.decideAll ds).drawn
      events := (s.raise b).events, overrun := ((s.decideAll ds).raise b).overrun
      eventNumber := s.eventNumber + 1, passAsked := ((s.decideAll ds).raise b).askPass.passAsked } := by
  have number : (s.decideAll ds).eventNumber = s.eventNumber := by rw [State.decideAll_eq]
  have events := raise_events_congr s (s.decideAll ds) b (State.decideAll_events ..) number
  rw [askPass_eq, raise_eq, events, number, State.decideAll_eq]

theorem becomeBroken_eq (cause : Cause) : s.becomeBroken r cause =
    { s with
      rings := (s.becomeBroken r cause).rings, contexts := (s.becomeBroken r cause).contexts
      forward := ((s.stopJournal r cause).decideAll (s.brokenOff r)).forward
      decided := ((s.stopJournal r cause).decideAll (s.brokenOff r)).decided
      script := (s.becomeBroken r cause).script, drawn := (s.becomeBroken r cause).drawn
      journal := (s.becomeBroken r cause).journal, service := (s.becomeBroken r cause).service
      events := (s.raise (.broken r cause (s.ring r).live)).events, overrun := (s.becomeBroken r cause).overrun
      eventNumber := (s.becomeBroken r cause).eventNumber, passAsked := (s.becomeBroken r cause).passAsked } := by
  have events := raise_events_congr s (s.stopJournal r cause) (.broken r cause (s.ring r).live) rfl rfl
  rw [becomeBroken_split, decideAll_raise_askPass_eq, events]
  rfl

theorem resetRing_eq : s.resetRing r =
    { s with
      rings := (s.resetRing r).rings, contexts := (s.resetRing r).contexts, reports := (s.resetRing r).reports
      forward := ((s.abandon r).decideAll (s.resetOff r)).forward
      decided := ((s.abandon r).decideAll (s.resetOff r)).decided
      script := (s.resetRing r).script, drawn := (s.resetRing r).drawn, ownTags := (s.resetRing r).ownTags
      journal := (s.resetRing r).journal, service := (s.resetRing r).service
      events := (s.raise (.closed r .reset)).events, overrun := (s.resetRing r).overrun
      eventNumber := (s.resetRing r).eventNumber, passAsked := (s.resetRing r).passAsked } := by
  have events := raise_events_congr s (s.abandon r) (.closed r .reset) rfl rfl
  rw [resetRing_split, decideAll_raise_askPass_eq, events]
  rfl

end

end Sys2Proof.Machine

/-! The event queue, the capacities and the command slots under every elementary act. -/

namespace Sys2Proof.Machine

open Safety

/-! ### The event queue (R175, R177) -/

theorem raise_length (s : State) (b : EventBody) (room : s.events.length ≤ 32) : (s.raise b).events.length ≤ 32 := by
  unfold State.raise
  split
  · next h =>
    simp only [Config.eventPlaces] at h
    simp only [List.length_append, List.length_singleton]
    omega
  · exact room

/-- The event queue after an act: as it was, with one event more, or without its first record, or empty. -/
theorem Act.events {c : Instr} {s0 s t : State} (h : Act c s0 s t) :
    t.events = s.events ∨ (∃ b, t.events = (s.raise b).events) ∨ ((∃ p, c = .eventRead p) ∧ t.events = s.events.tail) ∨
      (c = .deviceReset ∧ t.events = []) := by
  cases h with
  | raises b => exact .inr (.inl ⟨b, rfl⟩)
  | breaks r x cause may h =>
    refine .inr (.inl ⟨.broken r cause x.live, ?_⟩)
    rw [becomeBroken_eq, State.setRing_ring_self]
    exact raise_events_congr _ _ _ rfl rfl
  | resets r => exact .inr (.inl ⟨.closed r .reset, by rw [resetRing_eq]⟩)
  | reads by_ => exact .inr (.inr (.inl ⟨by_, rfl⟩))
  | device by_ => exact .inr (.inr (.inr ⟨by_, rfl⟩))
  | quiet t h => exact .inl h.events
  | forwards k => exact .inl (by rw [forwardCtx_eq])
  | answersCtx k h => exact .inl (by rw [answerCtx_eq])
  | rises r by_ => exact .inl (by rw [frontierRise_eq])
  | retries r => exact .inl (by rw [retryHeld_eq])
  | arrives q u free h => exact .inl (by rw [h.eq]; rfl)
  | leaves ahead e es u at_ h => exact .inl (by rw [h.eq])
  | steerEnds r q u held h => exact .inl (by rw [h.placed.eq]; rfl)
  | returns p ps h => exact .inl (by rw [afterReturn_eq])
  | issues => exact .inl (by rw [issueHost_eq])
  | memory t st data => exact .inl (by rw [hostMemoryResponse_eq])
  | time | ring | opens | rollsBack | configures | setsInterval | context | arrivesHeld | stays | loads | takes | answers
  | takesFrame | endsFrame | collects | mode | region => exact .inl rfl

/-- Settles O9: no other elementary act takes an event from the queue. -/
theorem eventsLeaveOnlyByEventReads : Obligations.EventsLeaveOnlyByEventReads := by
  intro c s t noRead noReset h
  refine (exec_acts _ t h).keeps (P := fun u => s.events <+: u.events) (fun u v act so => ?_) List.prefix_rfl
  rcases act.events with same | ⟨b, raised⟩ | ⟨⟨p, read⟩, -⟩ | ⟨reset, -⟩
  · rwa [same]
  · rw [raised]
    exact so.trans (raise_prefix u b)
  · exact absurd read (noRead p)
  · exact absurd reset noReset

/-! ### The forward buffer and the decided requests (R159) -/

/-- The forward buffer holds 4 requests at most, and a decided request waits only while it is full (R159). -/
def State.Queued (s : State) : Prop := s.forward.length ≤ 4 ∧ (s.decided ≠ [] → s.forward.length = 4)

theorem State.Queued.congr {s t : State} (fine : s.Queued) (forward : t.forward = s.forward)
    (decided : t.decided = s.decided) : t.Queued := by
  unfold State.Queued
  rwa [forward, decided]

theorem State.Queued.decide {s : State} (fine : s.Queued) (d : Decided) : (s.decide d).Queued := by
  obtain ⟨short, waits⟩ := fine
  unfold State.decide State.Queued
  simp only [Config.forwardPlaces]
  split
  · next room =>
    refine ⟨by simpa using room, fun h => absurd (waits h) (by omega)⟩
  · next full =>
    have : s.forward.length = 4 := by omega
    exact ⟨short, fun _ => this⟩

theorem State.Queued.decideAll {s : State} (fine : s.Queued) (ds : List Decided) : (s.decideAll ds).Queued := by
  have fold (ds : List Decided) : ∀ u : State, u.Queued → (ds.foldl State.decide u).Queued := by
    induction ds with
    | nil => exact fun _ h => h
    | cons d ds ih => exact fun u h => ih _ (h.decide d)
  exact fold _ _ (fine.congr rfl rfl)

theorem State.Queued.fillRoom {s : State} (q : HostRequest) (qs : List HostRequest) (at_ : s.forward = q :: qs)
    (fine : s.Queued) (t : State) (forward : t.forward = qs) (decided : t.decided = s.decided) : t.fillRoom.Queued := by
  obtain ⟨short, waits⟩ := fine
  simp only [at_, List.length_cons] at short waits
  unfold State.fillRoom
  split
  · next d ds h =>
    have full := waits (by simp [← decided, h])
    exact ⟨by simp [forward]; omega, fun _ => by simp [forward]; omega⟩
  · next h =>
    have room : State.Queued t := ⟨by rw [forward]; omega, fun k => absurd h k⟩
    split
    · exact room.congr rfl rfl
    · exact room

theorem State.Queued.issueHost {s : State} (fine : s.Queued) : s.issueHost.Queued := by
  unfold State.issueHost
  split
  · exact fine
  · next q qs h =>
    refine State.Queued.fillRoom q qs h fine _ ?_ ?_ <;> split <;> rfl

theorem State.Queued.forwardCtx {s : State} (fine : s.Queued) (k : CtxId) : (s.forwardCtx k).Queued := by
  unfold State.forwardCtx
  split
  · exact fine
  · split
    · exact fine
    · refine State.Queued.decide (fine.congr ?_ ?_) _ <;> rfl

theorem Placed.queued {s u : State} {q : HostRequest} (h : Placed s q u) (fine : s.Queued) : u.Queued := by
  cases h with
  | answered st data => exact fine.congr rfl rfl
  | decided src => exact fine.decide _
  | counted src r => exact State.Queued.decide (fine.congr (by rw [countWrite_eq]) (by rw [countWrite_eq])) _
  | steered r cell => exact fine.congr rfl rfl
  | context k r free active => exact fine.congr (by rw [countWrite_eq]; rfl) (by rw [countWrite_eq]; rfl)

theorem Act.queued {c : Instr} {s0 s t : State} (h : Act c s0 s t) (fine : s.Queued) : t.Queued := by
  cases h with
  | quiet t h => exact fine.congr h.forward h.decided
  | raises b => exact fine.congr (State.raise_forward ..) (State.raise_decided ..)
  | breaks r x cause may h =>
    rw [becomeBroken_eq]
    exact State.Queued.decideAll (s := (s.setRing r x).stopJournal r cause) (fine.congr rfl rfl) _
  | resets r =>
    rw [resetRing_eq]
    exact State.Queued.decideAll (s := s.abandon r) (fine.congr rfl rfl) _
  | forwards k => exact fine.forwardCtx k
  | answersCtx k h => exact fine.congr (by rw [answerCtx_eq]) (by rw [answerCtx_eq])
  | rises r by_ => refine State.Queued.decideAll (fine.congr ?_ ?_) _ <;> rfl
  | retries r => exact fine.congr (by rw [retryHeld_eq]) (by rw [retryHeld_eq])
  | arrives q u free h => exact h.queued (fine.congr rfl rfl)
  | leaves ahead e es u at_ h => exact h.queued (fine.congr rfl rfl)
  | steerEnds r q u held h => exact h.placed.queued (fine.congr rfl rfl)
  | returns p ps h => exact fine.congr (by rw [afterReturn_eq]) (by rw [afterReturn_eq])
  | issues => exact fine.issueHost
  | memory t st data => exact fine.congr (by rw [hostMemoryResponse_eq]) (by rw [hostMemoryResponse_eq])
  | device by_ => exact ⟨Nat.zero_le _, fun h => absurd rfl h⟩
  | time | ring | opens | rollsBack | configures | setsInterval | context | arrivesHeld | stays | loads | takes | answers
  | takesFrame | endsFrame | collects | reads | mode | region => exact fine.congr rfl rfl

/-! ### The hold queue (R74) -/

theorem Act.hold_length {c : Instr} {s0 s t : State} (h : Act c s0 s t) (fine : s.hold.length ≤ 16) :
    t.hold.length ≤ 16 := by
  cases h with
  | quiet t h => rwa [h.hold]
  | raises b => rwa [State.raise_hold]
  | breaks r x cause may h => rwa [becomeBroken_eq]
  | resets r => rwa [resetRing_eq]
  | forwards k => rwa [forwardCtx_eq]
  | answersCtx k h => rwa [answerCtx_eq]
  | rises r by_ => rwa [frontierRise_eq]
  | retries r =>
    rw [retryHeld_hold]
    exact (List.length_filter_le ..).trans fine
  | arrives q u free h => rw [h.eq]; exact fine
  | arrivesHeld e free room h => simpa using room
  | leaves ahead e es u at_ h =>
    rw [h.eq]
    simp only [at_, List.length_append, List.length_cons] at fine ⊢
    omega
  | stays ahead e e' es at_ req h => simpa [at_] using fine
  | steerEnds r q u held h => rw [h.placed.eq]; exact fine
  | returns p ps h => rwa [afterReturn_eq]
  | issues => rwa [issueHost_eq]
  | memory t st data => rwa [hostMemoryResponse_eq]
  | device by_ => exact Nat.zero_le _
  | time | ring | opens | rollsBack | configures | setsInterval | context | loads | takes | answers | takesFrame | endsFrame
  | collects | reads | mode | region => exact fine

/-! ### The touched-line set (R64) -/

theorem offer_touched_length (x : Ring) (line : Addr) (cell : Nat) (fine : x.touched.length ≤ 256) :
    (x.offer line cell).touched.length ≤ 256 := by
  unfold Ring.offer
  split
  · exact fine
  · split
    · next room => simpa [Config.touchedPlaces] using room
    · exact fine

theorem RingMove.touched_length {x y : Ring} (h : RingMove x y) (fine : x.touched.length ≤ 256) :
    y.touched.length ≤ 256 := by
  cases h with
  | books y h => rwa [h.touched]
  | grants line at_ more room => exact offer_touched_length x line x.produce fine
  | takesReport seq => rwa [takeReport_eq]
  | stepsBack cell at_ => simpa [Ring.recordRestored, Ring.markRestored] using fine
  | recovers | completesCheckpoint | completesRollback | completesFresh | failsOpen | closes => exact Nat.zero_le _
  | _ => exact fine

theorem BreakFrom.touched {s0 : State} {r : RingId} {x y : Ring} (h : BreakFrom s0 r x y) : y.touched = x.touched := by
  cases h with
  | plain n fits noMark => rfl
  | withdrawn n fits at_ => rw [withdrawMark_eq]

theorem RingStep.touched_length {c : Instr} {s0 : State} {q : RingId} {mode : Mode} {x y : Ring}
    (h : RingStep c s0 q mode x y) (fine : x.touched.length ≤ 256) : y.touched.length ≤ 256 := by
  cases h with
  | move y h => exact h.touched_length fine
  | breaks | resets | device => exact Nat.zero_le _
  | _ => exact fine

/-! ### The command slots (R168, R170, R172) -/

/-- What the law of the command slots speaks of. -/
def State.port (s : State) : Vector Slot 2 × List SlotId × Option Frame := (s.slots, s.loadOrder, s.frame)

theorem slotLaw_congr {s t : State} (fine : SlotLaw s) (same : t.port = s.port) : SlotLaw t := by
  simp only [State.port, Prod.mk.injEq] at same
  obtain ⟨slots, loadOrder, frame⟩ := same
  have slot (i : SlotId) : t.slot i = s.slot i := congrArg (·.get i) slots
  unfold SlotLaw at fine ⊢
  simpa only [slot, loadOrder, frame] using fine

theorem setSlot_slot (s : State) (i j : SlotId) (w : Slot) : (s.setSlot i w).slot j = if j = i then w else s.slot j := by
  split
  · next h => rw [h, State.setSlot_slot_self]
  · next h => exact State.setSlot_slot_ne _ _ _ _ h

/-- One slot takes a new content. -/
theorem slotLaw_set {s t : State} (law : SlotLaw s) (i : SlotId) (w : Slot)
    (slot : ∀ j, t.slot j = if j = i then w else s.slot j)
    (order : ∀ j, j ∈ t.loadOrder ↔ if j = i then isLoaded w = true else j ∈ s.loadOrder) (nodup : t.loadOrder.Nodup)
    (one : isExecuting w = true → ∀ j, j ≠ i → isExecuting (s.slot j) = false) (len : ∀ rec ∈ record? w, rec.length = 32)
    (frame : ∀ j rec, t.frame = some (.response j rec true) → j ≠ i ∧ s.slot j = .answered rec) : SlotLaw t := by
  obtain ⟨order0, -, one0, len0, -⟩ := law
  refine ⟨fun j => ?_, nodup, fun j k hj hk => ?_, fun j => ?_, fun j rec h => ?_⟩
  · rw [order, slot]
    split
    · rfl
    · exact order0 j
  · rw [slot] at hj hk
    split at hj <;> split at hk
    · next ej ek => rw [ej, ek]
    · next ek => simp [one hj k ek] at hk
    · next ej _ => simp [one hk j ej] at hj
    · exact one0 j k hj hk
  · rw [slot]
    split
    · exact len
    · exact len0 j
  · obtain ⟨ne, held⟩ := frame j rec h
    rw [slot, if_neg ne, held]

/-- A RESPONSE read in progress holds the answer of a slot that is ANSWERED, so of no slot that is not. -/
theorem slotLaw_frame_ne {s : State} (law : SlotLaw s) {i j : SlotId} {rec : List Byte}
    (no : ∀ rec, s.slot i ≠ .answered rec) (h : s.frame = some (.response j rec true)) :
    j ≠ i ∧ s.slot j = .answered rec := by
  obtain ⟨-, -, -, -, frame⟩ := law
  have held := frame j rec h
  refine ⟨fun e => no rec (e ▸ held), held⟩

theorem slotLaw_loads {s : State} (law : SlotLaw s) (i : SlotId) (rec : List Byte) (empty : s.slot i = .empty)
    (len : rec.length = 32) : SlotLaw { s.setSlot i (.loaded rec) with loadOrder := s.loadOrder ++ [i] } := by
  have ⟨order, nodup, _⟩ := law
  have out : i ∉ s.loadOrder := by simp [order i, empty, isLoaded]
  refine slotLaw_set law i (.loaded rec) (fun j => setSlot_slot ..) (fun j => ?_) ?_ (by simp [isExecuting]) (by simpa [record?])
    fun j rec h => slotLaw_frame_ne law (by simp [empty]) h
  · by_cases e : j = i <;> simp [e, isLoaded]
  · simpa only [List.concat_eq_append] using List.Nodup.concat out nodup

theorem slotLaw_takes {s : State} (law : SlotLaw s) (i : SlotId) (rec : List Byte) (next : s.nextCommand = some (i, rec)) :
    SlotLaw { s.setSlot i (.executing rec) with loadOrder := s.loadOrder.tail } := by
  obtain ⟨idle, rest, order, held⟩ := (nextCommand_iff ..).1 next
  have ⟨_, nodup, _, len, _⟩ := law
  rw [order, List.nodup_cons] at nodup
  refine slotLaw_set law i (.executing rec) (fun j => setSlot_slot ..) (fun j => ?_) ?_ (fun _ j _ => ?_)
    (by simpa [held, record?] using len i) fun j rec h => slotLaw_frame_ne law (by simp [held]) h
  · by_cases e : j = i <;> simp [e, order, isLoaded, nodup.1]
  · simpa [order] using nodup.2
  · have none := (executing_none s).1 idle j
    cases h : s.slot j <;> simp_all [isExecuting]

theorem slotLaw_answers {s : State} (law : SlotLaw s) (i : SlotId) (rec : List Byte) (st : Status) (result : List Byte)
    (held : s.slot i = .loaded rec ∨ s.slot i = .executing rec) : SlotLaw (s.answerSlot i rec st result) := by
  have ⟨_, nodup, _⟩ := law
  refine slotLaw_set law i (.answered (responseRecord (byteAt rec 0) (byteAt rec 1) st result)) (fun j => setSlot_slot ..)
    (fun j => ?_) (nodup.erase i) (by simp [isExecuting]) (by simp [record?])
    fun j rec h => slotLaw_frame_ne law (by rcases held with h | h <;> simp [h]) h
  by_cases e : j = i <;> simp [e, State.answerSlot, isLoaded, nodup.mem_erase_iff]

theorem slotLaw_collects {s : State} (law : SlotLaw s) (i : SlotId) (rec : List Byte)
    (h : s.frame = some (.response i rec true) ∨ s.slot i = .answered rec) :
    SlotLaw { s.setSlot i .empty with frame := none } := by
  have ⟨order, nodup, _, _, frame⟩ := law
  have held : s.slot i = .answered rec := h.elim (frame i rec) id
  refine slotLaw_set law i .empty (fun j => setSlot_slot ..) (fun j => ?_) nodup (by simp [isExecuting]) (by simp [record?])
    (by simp)
  by_cases e : j = i <;> simp [e, isLoaded, order, held]

theorem slotLaw_reset {s : State} (slot : ∀ i, s.slot i = .empty) (order : s.loadOrder = []) (frame : s.frame = none) :
    SlotLaw s := by simp [SlotLaw, slot, order, frame, isLoaded, isExecuting, record?]

theorem inDeviceReset_slot (s : State) (i : SlotId) : s.inDeviceReset.slot i = .empty := by
  fin_cases i <;> rfl

theorem Act.slotLaw {c : Instr} {s0 s t : State} (h : Act c s0 s t) (law : SlotLaw s) : SlotLaw t := by
  cases h with
  | loads i rec empty len => exact slotLaw_loads law i rec empty len
  | takes i rec next => exact slotLaw_takes law i rec next
  | answers i rec st result held => exact slotLaw_answers law i rec st result held
  | collects i rec h => exact slotLaw_collects law i rec h
  | takesFrame f free h =>
    obtain ⟨order, nodup, one, len, -⟩ := law
    exact ⟨order, nodup, one, len, fun i rec e => h i rec (Option.some.inj e)⟩
  | endsFrame =>
    obtain ⟨order, nodup, one, len, -⟩ := law
    exact ⟨order, nodup, one, len, fun i rec e => by simp at e⟩
  | device by_ => exact slotLaw_reset (inDeviceReset_slot s) rfl rfl
  | quiet t h => exact slotLaw_congr law (by simp [State.port, h.slots, h.loadOrder, h.frame])
  | raises b => exact slotLaw_congr law (by simp [State.port])
  | breaks r x cause may h => exact slotLaw_congr law (by rw [becomeBroken_eq]; rfl)
  | resets r => exact slotLaw_congr law (by rw [resetRing_eq]; rfl)
  | forwards k => exact slotLaw_congr law (by rw [forwardCtx_eq]; rfl)
  | answersCtx k h => exact slotLaw_congr law (by rw [answerCtx_eq]; rfl)
  | rises r by_ => exact slotLaw_congr law (by rw [frontierRise_eq]; rfl)
  | retries r => exact slotLaw_congr law (by rw [retryHeld_eq]; rfl)
  | arrives q u free h => exact slotLaw_congr law (by rw [h.eq]; rfl)
  | leaves ahead e es u at_ h => exact slotLaw_congr law (by rw [h.eq]; rfl)
  | steerEnds r q u held h => exact slotLaw_congr law (by rw [h.placed.eq]; rfl)
  | returns p ps h => exact slotLaw_congr law (by rw [afterReturn_eq]; rfl)
  | issues => exact slotLaw_congr law (by rw [issueHost_eq]; rfl)
  | memory t st data => exact slotLaw_congr law (by rw [hostMemoryResponse_eq]; rfl)
  | time | ring | opens | rollsBack | configures | setsInterval | context | arrivesHeld | stays | reads | mode | region =>
    exact slotLaw_congr law rfl

/-- Settles O54: each capacity, and the law of the slots, is kept by every elementary act. -/
theorem everyStepKeepsTheCapacities : Obligations.EveryStepKeepsTheCapacities := by
  intro s t h
  obtain ⟨c, rest, acts⟩ := step_acts s t h
  refine ⟨fun ⟨hold, forward, decided, events, touched⟩ => ?_, fun law => ?_⟩
  · have queued : t.Queued := acts.keeps (fun _ _ h => h.queued) ⟨forward, decided⟩
    refine ⟨?_, queued.1, queued.2, ?_, fun r => ?_⟩
    · exact acts.keeps (P := fun u => u.hold.length ≤ 16) (fun _ _ h => h.hold_length) hold
    · refine acts.keeps (P := fun u => u.events.length ≤ 32) (fun u v act so => ?_) events
      rcases act.events with same | ⟨b, raised⟩ | ⟨-, tail⟩ | ⟨-, empty⟩
      · rwa [same]
      · rw [raised]
        exact raise_length u b so
      · rw [tail, List.length_tail]
        omega
      · simp [empty]
    · exact acts.keepsRing (P := fun x => x.touched.length ≤ 256) r (fun _ _ _ h => h.touched_length) (touched r)
  · exact acts.keeps (P := SlotLaw) (fun _ _ h => h.slotLaw) law

end Sys2Proof.Machine

/-! The numbering of records and the durable frontier under every elementary act (R8, R13, R18, R19). -/

namespace Sys2Proof.Machine

open Safety

/-! ### The next number -/

theorem nextNumber_of_ne {x : Ring} (h : x.nextSeq ≠ 0) : nextNumber x = x.nextSeq.toNat := if_neg h

/-- The number after a sequence number, which is 2^64 after the last (R8). -/
theorem nextNumber_succ (x : Ring) (q : Seq) (h : x.nextSeq = q + 1) : nextNumber x = q.toNat + 1 := by
  have := q.isLt
  unfold nextNumber
  rw [h]
  split
  · next zero =>
    have := congrArg BitVec.toNat zero
    simp [BitVec.toNat_add] at this
    omega
  · next more =>
    by_cases last : q.toNat + 1 = 2 ^ 64
    · exact absurd (BitVec.eq_of_toNat_eq (by simp [BitVec.toNat_add, last])) more
    · rw [BitVec.toNat_add_of_lt (by simp; omega)]
      rfl

/-! ### A durability report (R18, R19) -/

/-- What a durability report makes of the list and the frontier: nothing, or the list loses some of its head, none of it or
all up to the new frontier. -/
theorem takeReport_cases (x : Ring) (seq : Seq) : x.takeReport seq = x ∨
    ∃ gone left : List OutRecord, x.outstanding.map (·.seq) = gone.map (·.seq) ++ left.map (·.seq) ∧
      x.takeReport seq = { x with
        outstanding := left
        frontier := match gone.getLast? with
          | some e => e.seq
          | none => x.frontier } := by
  unfold Ring.takeReport
  split
  · refine .inr ⟨durableHead (setDurable seq x.outstanding), afterDurableHead (setDurable seq x.outstanding), ?_, rfl⟩
    rw [← List.map_append, durableHead, afterDurableHead, List.takeWhile_append_dropWhile, setDurable, List.map_map]
    refine List.map_congr_left fun e _ => ?_
    simp only [Function.comp_apply]
    split <;> rfl
  · exact .inl rfl

/-- The outstanding records lie in order between the frontier and `top` (R18, R19). -/
def Ring.ordered (x : Ring) (top : Nat) : Prop :=
  x.frontier.toNat < top ∧ (x.outstanding.map fun e => e.seq.toNat).Pairwise (· < ·) ∧
    ∀ e ∈ x.outstanding, x.frontier.toNat < e.seq.toNat ∧ e.seq.toNat < top

theorem takeReport_ordered (x : Ring) (seq : Seq) (top : Nat) (h : x.ordered top) :
    (x.takeReport seq).ordered top ∧ x.frontier.toNat ≤ (x.takeReport seq).frontier.toNat := by
  rcases takeReport_cases x seq with same | ⟨gone, left, split, after⟩
  · rw [same]
    exact ⟨h, le_rfl⟩
  · obtain ⟨below, order, between⟩ := h
    have nums : (x.outstanding.map fun e => e.seq.toNat) =
        (gone.map fun e => e.seq.toNat) ++ left.map fun e => e.seq.toNat := by
      simpa [Function.comp_def] using congrArg (List.map BitVec.toNat) split
    have between' (n : Nat) (hn : n ∈ x.outstanding.map fun e => e.seq.toNat) : x.frontier.toNat < n ∧ n < top := by
      obtain ⟨e, he, rfl⟩ := List.mem_map.1 hn
      exact between e he
    rw [nums] at order between'
    obtain ⟨-, ordered, apart⟩ := List.pairwise_append.1 order
    have inLeft (e : OutRecord) (he : e ∈ left) := List.mem_map_of_mem (f := fun e : OutRecord => e.seq.toNat) he
    rw [after]
    cases last : gone.getLast? with
    | none =>
      exact ⟨⟨below, ordered, fun e he => between' _ (List.mem_append_right _ (inLeft e he))⟩, le_rfl⟩
    | some f =>
      have inGone := List.mem_map_of_mem (f := fun e : OutRecord => e.seq.toNat) (List.mem_of_getLast? last)
      have bounds := between' _ (List.mem_append_left _ inGone)
      refine ⟨⟨bounds.2, ordered, fun e he => ⟨apart _ inGone _ (inLeft e he), ?_⟩⟩, bounds.1.le⟩
      exact (between' _ (List.mem_append_right _ (inLeft e he))).2

/-! ### The numbering of one ring -/

/-- The numbering law with its parts named: the order of the list, the mark that is being written, and an open. -/
theorem numbered_iff (x : Ring) : Numbered x ↔
    (x.phase ≠ .closed → x.phase.state ≠ .opening → x.ordered (nextNumber x)) ∧
    (x.phase = .checkpointingMark ∨ x.phase = .rollingMark ∨ x.phase = .openingMark →
      ∃ m, x.mark = some m ∧ m.seq.toNat + 1 = nextNumber x ∧ x.frontier.toNat < m.seq.toNat ∧
        ∀ e ∈ x.outstanding, e.seq.toNat < m.seq.toNat) ∧
    (x.phase.state = .opening → x.frontier = 0 ∧ x.outstanding = []) := Iff.rfl

theorem numbered_congr {x y : Ring} (fine : Numbered x) (phase : y.phase = x.phase) (frontier : y.frontier = x.frontier)
    (outstanding : y.outstanding = x.outstanding) (nextSeq : y.nextSeq = x.nextSeq) (mark : y.mark = x.mark) :
    Numbered y := by
  unfold Numbered nextNumber at fine ⊢
  rwa [phase, frontier, outstanding, nextSeq, mark]

theorem numbered_closed {x : Ring} (h : x.phase = .closed) : Numbered x := by
  simp [Numbered, h, Phase.state]

/-- Outside CLOSED, OPENING and MARK the order of the list is the whole law. -/
theorem numbered_of_ordered {x : Ring} (opening : x.phase.state ≠ .opening) (mark : x.phase.sub ≠ .mark)
    (h : x.ordered (nextNumber x)) : Numbered x := by
  refine ⟨fun _ _ => h, fun at_ => ?_, fun at_ => absurd at_ opening⟩
  rcases at_ with at_ | at_ | at_ <;> simp [at_, Phase.sub] at mark

/-- The reservation of a mark gives it the newest number, above the frontier and every record (R13). -/
theorem numbered_reserveMark {x y : Ring} (at_ : y.phase = .checkpointingMark ∨ y.phase = .rollingMark)
    (more : x.nextSeq ≠ 0) (h : x.ordered (nextNumber x)) (frontier : y.frontier = x.frontier)
    (outstanding : y.outstanding = x.outstanding) (nextSeq : y.nextSeq = x.nextSeq + 1)
    (mark : ∃ m, y.mark = some m ∧ m.seq = x.nextSeq) : Numbered y := by
  obtain ⟨m, held, seq⟩ := mark
  have top := nextNumber_succ y _ nextSeq
  rw [nextNumber_of_ne more] at h
  obtain ⟨below, order, between⟩ := h
  refine (numbered_iff y).2 ⟨fun _ _ => ?_, fun _ => ⟨m, held, ?_, ?_, ?_⟩, fun opening => ?_⟩
  · unfold Ring.ordered
    rw [frontier, outstanding, top]
    exact ⟨by omega, order, fun e he => ⟨(between e he).1, Nat.lt_succ_of_lt (between e he).2⟩⟩
  · rw [seq, top]
  · rw [seq, frontier]
    exact below
  · rw [seq, outstanding]
    exact fun e he => (between e he).2
  · rcases at_ with at_ | at_ <;> simp [at_, Phase.state] at opening

/-- A completion with the mark `m` puts the frontier at the newest number (R99, R116, R131). -/
theorem numbered_newEpoch {x y : Ring} {m : Mark} (fine : Numbered x) (held : x.mark = some m)
    (at_ : x.phase = .checkpointingMark ∨ x.phase = .rollingMark ∨ x.phase = .openingMark) (active : y.phase = .active)
    (frontier : y.frontier = m.seq) (outstanding : y.outstanding = []) (nextSeq : y.nextSeq = x.nextSeq) : Numbered y := by
  obtain ⟨m', held', top, -⟩ := fine.2.1 at_
  obtain rfl := Option.some.inj (held.symm.trans held')
  refine numbered_of_ordered (by simp [active, Phase.state]) (by simp [active, Phase.sub]) ?_
  have same : nextNumber y = nextNumber x := by unfold nextNumber; rw [nextSeq]
  refine ⟨by rw [frontier, same]; omega, by simp [outstanding], by simp [outstanding]⟩

theorem RingMove.numbered {x y : Ring} (h : RingMove x y) (fine : Numbered x) : Numbered y := by
  have ordered {p : Phase} (at_ : x.phase = p) (closed : p ≠ .closed) (opening : p.state ≠ .opening) :
      x.ordered (nextNumber x) := fine.1 (at_ ▸ closed) (at_ ▸ opening)
  cases h with
  | books y h => exact numbered_congr fine h.phase h.frontier h.outstanding h.nextSeq h.mark
  | scores | disarmsHigh | disarmsFull => exact fine
  | stepsBack | finds | walks => exact numbered_congr fine rfl rfl rfl rfl rfl
  | startsCheckpoint reason from_ =>
    refine numbered_of_ordered (by simp [Phase.state]) (by simp [Phase.sub]) ?_
    exact from_.elim (ordered · (by decide) (by decide)) fun h => ordered h.1 (by decide) (by decide)
  | startsClose from_ =>
    refine numbered_of_ordered (by simp [Phase.state]) (by simp [Phase.sub]) ?_
    exact from_.elim (ordered · (by decide) (by decide)) fun h => ordered h.1 (by decide) (by decide)
  | marksCheckpoint reason released at_ more idle =>
    exact numbered_reserveMark (.inl rfl) more (ordered at_ (by decide) (by decide)) rfl rfl rfl ⟨_, rfl, rfl⟩
  | marksRollback released at_ more =>
    exact numbered_reserveMark (.inr rfl) more (ordered at_ (by decide) (by decide)) rfl rfl rfl ⟨_, rfl, rfl⟩
  | marksFresh at_ =>
    obtain ⟨frontier, outstanding⟩ := fine.2.2 (by rw [at_]; rfl)
    refine ⟨fun _ opening => absurd rfl opening, fun _ => ⟨_, rfl, rfl, ?_, ?_⟩, fun _ => ⟨frontier, outstanding⟩⟩
    · show x.frontier.toNat < 1
      simp [frontier]
    · show ∀ e ∈ x.outstanding, _
      simp [outstanding]
  | restores cell seq at_ idle =>
    exact numbered_of_ordered (by simp [Phase.state]) (by simp [Phase.sub]) (ordered at_ (by decide) (by decide))
  | searches at_ =>
    exact ⟨fun _ opening => absurd rfl opening, by simp, fun _ => fine.2.2 (by rw [at_]; rfl)⟩
  | recovers m n at_ found room =>
    refine numbered_of_ordered (by simp [Phase.state, Ring.activated]) (by simp [Phase.sub, Ring.activated]) ?_
    rw [nextNumber_succ _ (m.seq + BitVec.ofNat 64 n) (by simp [BitVec.ofNat_add, BitVec.add_assoc])]
    exact ⟨Nat.lt_succ_self _, by simp, by simp⟩
  | completesCheckpoint m at_ held => exact numbered_newEpoch fine held (.inl at_) rfl rfl rfl rfl
  | completesRollback m at_ held => exact numbered_newEpoch fine held (.inr (.inl at_)) rfl rfl rfl rfl
  | completesFresh m at_ held => exact numbered_newEpoch fine held (.inr (.inr at_)) rfl rfl rfl rfl
  | failsOpen | closes => exact numbered_closed rfl
  | grants line at_ more room =>
    have h : x.ordered (nextNumber x) := by
      rcases at_ with h | h | h | h <;> exact ordered h (by decide) (by decide)
    rw [nextNumber_of_ne more] at h
    obtain ⟨below, order, between⟩ := h
    have phase : (x.grantRecord line).phase = x.phase := offer_phase ..
    have frontier : (x.grantRecord line).frontier = x.frontier := by
      show (x.offer line x.produce).frontier = _
      rw [offer_eq]
    refine numbered_of_ordered (by rw [phase]; rcases at_ with h | h | h | h <;> simp [h, Phase.state])
      (by rw [phase]; rcases at_ with h | h | h | h <;> simp [h, Phase.sub]) ?_
    rw [nextNumber_succ (x.grantRecord line) x.nextSeq rfl]
    unfold Ring.ordered
    rw [frontier]
    refine ⟨by omega, ?_, ?_⟩
    · simp only [Ring.grantRecord, List.map_append, List.map_cons, List.map_nil]
      refine List.pairwise_append.2 ⟨order, by simp, fun a ha b hb => ?_⟩
      obtain ⟨e, he, rfl⟩ := List.mem_map.1 ha
      obtain rfl := List.mem_singleton.1 hb
      exact (between e he).2
    · intro e he
      rcases List.mem_append.1 he with he | he
      · exact ⟨(between e he).1, Nat.lt_succ_of_lt (between e he).2⟩
      · obtain rfl := List.mem_singleton.1 he
        exact ⟨below, Nat.lt_succ_self _⟩
  | takesReport seq =>
    have phase : (x.takeReport seq).phase = x.phase := by rw [takeReport_eq]
    have top : nextNumber (x.takeReport seq) = nextNumber x := by rw [takeReport_eq]; rfl
    have mark : (x.takeReport seq).mark = x.mark := by rw [takeReport_eq]
    refine (numbered_iff _).2 ⟨fun closed opening => ?_, fun at_ => ?_, fun opening => ?_⟩
    · rw [phase] at closed opening
      rw [top]
      exact (takeReport_ordered x seq _ (fine.1 closed opening)).1
    · rw [phase] at at_
      obtain ⟨m, held, newest, below, between⟩ := fine.2.1 at_
      refine ⟨m, mark.trans held, newest.trans top.symm, ?_⟩
      by_cases opening : x.phase.state = .opening
      · rw [takeReport_of_nil x seq (fine.2.2 opening).2]
        exact ⟨below, between⟩
      · have closed : x.phase ≠ .closed := by rcases at_ with h | h | h <;> simp [h]
        obtain ⟨-, order, above⟩ := fine.1 closed opening
        obtain ⟨⟨below', -, between'⟩, -⟩ := takeReport_ordered x seq m.seq.toNat
          ⟨below, order, fun e he => ⟨(above e he).1, between e he⟩⟩
        exact ⟨below', fun e he => (between' e he).2⟩
    · rw [phase] at opening
      rw [takeReport_of_nil x seq (fine.2.2 opening).2]
      exact fine.2.2 opening

/-! ### Breaks, and the law at every step -/

theorem BreakFrom.frontier {s0 : State} {r : RingId} {x y : Ring} (h : BreakFrom s0 r x y) : y.frontier = x.frontier := by
  cases h with
  | plain n fits noMark => rfl
  | withdrawn n fits at_ => rw [withdrawMark_eq]

/-- A ring that breaks has its frontier below its next number, with the mark withdrawn too (R101, R119, R143). -/
theorem BreakFrom.frontier_lt {s0 : State} {r : RingId} {x y : Ring} (h : BreakFrom s0 r x y)
    (may : x.phase.mayBreak = true) (fine : Numbered x) : y.frontier.toNat < nextNumber y := by
  obtain ⟨closed, opening, -⟩ := (Phase.mayBreak_iff _).1 may
  cases h with
  | plain n fits noMark => exact (fine.1 closed opening).1
  | withdrawn n fits at_ =>
    obtain ⟨m, held, -, below, -⟩ := fine.2.1 (at_.elim .inl fun h => .inr (.inl h))
    have more : m.seq ≠ 0 := by
      intro zero
      simp [zero] at below
    have nextSeq : ({ x with score := n } : Ring).withdrawMark.nextSeq = m.seq := by simp [Ring.withdrawMark, held]
    rw [nextNumber_of_ne (nextSeq ▸ more), nextSeq, withdrawMark_eq]
    exact below

theorem RingStep.numbered {c : Instr} {s0 : State} {q : RingId} {mode : Mode} {x y : Ring}
    (h : RingStep c s0 q mode x y) (fine : Numbered x) : Numbered y := by
  cases h with
  | move y h => exact h.numbered fine
  | traffic | time | setsInterval => exact numbered_congr fine rfl rfl rfl rfl rfl
  | opens openMode run first from_ cells score =>
    exact ⟨fun _ opening => absurd rfl opening, by simp, fun _ => ⟨rfl, rfl⟩⟩
  | rollsBack from_ =>
    exact numbered_of_ordered (by simp [Phase.state]) (by simp [Phase.sub])
      (fine.1 (by simp [from_]) (by simp [from_, Phase.state]))
  | configures cfg by_ at_ cells => exact numbered_closed at_
  | breaks y cause steered may h =>
    refine numbered_of_ordered (by simp [Ring.broken, Phase.state]) (by simp [Ring.broken, Phase.sub]) ?_
    exact ⟨h.frontier_lt may fine, by simp [Ring.broken], by simp [Ring.broken]⟩
  | resets | device => exact numbered_closed rfl

theorem RingMove.frontier_le {x y : Ring} (h : RingMove x y) (fine : Numbered x) (closed : x.phase ≠ .closed) :
    y.phase = .closed ∨ x.frontier.toNat ≤ y.frontier.toNat := by
  have mark {m : Mark} (held : x.mark = some m)
      (at_ : x.phase = .checkpointingMark ∨ x.phase = .rollingMark ∨ x.phase = .openingMark) :
      x.frontier.toNat ≤ m.seq.toNat := by
    obtain ⟨m', held', -, below, -⟩ := fine.2.1 at_
    obtain rfl := Option.some.inj (held.symm.trans held')
    exact below.le
  cases h with
  | books y h => exact .inr (by rw [h.frontier])
  | recovers m n at_ found room =>
    refine .inr ?_
    rw [(fine.2.2 (by rw [at_]; rfl)).1]
    exact Nat.zero_le _
  | completesCheckpoint m at_ held => exact .inr (mark held (.inl at_))
  | completesRollback m at_ held => exact .inr (mark held (.inr (.inl at_)))
  | completesFresh m at_ held => exact .inr (mark held (.inr (.inr at_)))
  | failsOpen | closes => exact .inl rfl
  | grants line at_ more room =>
    refine .inr (le_of_eq ?_)
    show _ = (x.offer line x.produce).frontier.toNat
    rw [offer_eq]
  | takesReport seq =>
    refine .inr ?_
    by_cases opening : x.phase.state = .opening
    · rw [takeReport_of_nil x seq (fine.2.2 opening).2]
    · exact (takeReport_ordered x seq _ (fine.1 closed opening)).2
  | _ => exact .inr le_rfl

theorem RingStep.frontier_le {c : Instr} {s0 : State} {q : RingId} {mode : Mode} {x y : Ring}
    (h : RingStep c s0 q mode x y) (fine : Numbered x) (closed : x.phase ≠ .closed) :
    y.phase = .closed ∨ x.frontier.toNat ≤ y.frontier.toNat := by
  cases h with
  | move y h => exact h.frontier_le fine closed
  | opens openMode run first from_ cells score => exact absurd from_ closed
  | configures cfg by_ at_ cells => exact absurd at_ closed
  | breaks y cause steered may h => exact .inr (le_of_eq (congrArg BitVec.toNat h.frontier.symm))
  | resets | device => exact .inl rfl
  | _ => exact .inr le_rfl

/-- Settles O57: the numbering is kept by every elementary act, and the frontier of a ring that stays open only rises. -/
theorem everyStepKeepsTheNumbering : Obligations.EveryStepKeepsTheNumbering := by
  intro s t law h
  obtain ⟨c, rest, acts⟩ := step_acts s t h
  have numbered (r : RingId) : Numbered (t.ring r) :=
    acts.keepsRing (P := Numbered) r (fun _ _ _ h => h.numbered) (law r)
  refine ⟨numbered, fun r open0 open1 => ?_⟩
  have rises := acts.keepsRing
    (P := fun x => Numbered x ∧ (x.phase = .closed ∨ (s.ring r).frontier.toNat ≤ x.frontier.toNat)) r
    (fun mode x y step ⟨fine, so⟩ => ⟨step.numbered fine, ?_⟩) ⟨law r, .inr le_rfl⟩
  · exact BitVec.le_def.2 (rises.2.resolve_left open1)
  · by_cases closed : x.phase = .closed
    · exact .inl ((step.closed closed).resolve_right fun first => open0 first.2)
    · exact (step.frontier_le fine closed).imp_right (so.resolve_left closed).trans

end Sys2Proof.Machine

/-! The live set of a ring under every elementary act (R10, R13). -/

namespace Sys2Proof.Machine

open Safety

/-! ### The law by ring state -/

/-- The positions of a ring outside CLOSED, OPENING and MARK (R10, R13). -/
def Ring.steady (x : Ring) : Prop :=
  16 ≤ x.config.cells ∧ 1 ≤ x.live ∧ x.live + 1 ≤ x.config.cells ∧ x.produce = (x.release + x.live) % x.config.cells

theorem positioned_congr {x y : Ring} (fine : Positioned x) (cells : y.config.cells = x.config.cells)
    (phase : y.phase = x.phase) (live : y.live = x.live) (produce : y.produce = x.produce) (release : y.release = x.release)
    (mark : y.mark = x.mark) (walkCell : y.walkCell = x.walkCell) (walkCount : y.walkCount = x.walkCount) :
    Positioned y := by
  unfold Positioned at fine ⊢
  rwa [cells, phase, live, produce, release, mark, walkCell, walkCount]

theorem positioned_closed {x : Ring} (closed : x.phase = .closed) (cells : x.config.cells = 0 ∨ 16 ≤ x.config.cells) :
    Positioned x := by
  simp [Positioned, closed, cells, Phase.state]

theorem positioned_of_steady {x : Ring} (opening : x.phase.state ≠ .opening) (mark : x.phase.sub ≠ .mark)
    (h : x.steady) : Positioned x := by
  obtain ⟨cells, some, room, produce⟩ := h
  refine ⟨.inr cells, fun _ => cells, fun _ _ => ⟨some, by omega, fun _ => room, produce⟩, fun at_ => ?_, fun at_ => ?_,
    fun at_ => absurd at_ opening⟩
  · rcases at_ with at_ | at_ <;> simp [at_, Phase.sub] at mark
  · simp [at_, Phase.sub] at mark

theorem Ring.steady.of_positioned {x : Ring} (fine : Positioned x) (closed : x.phase ≠ .closed)
    (opening : x.phase.state ≠ .opening) (mark : x.phase.sub ≠ .mark) : x.steady := by
  obtain ⟨-, cells, positions, -⟩ := fine
  obtain ⟨some, -, room, produce⟩ := positions closed opening
  exact ⟨cells closed, some, room mark, produce⟩

theorem positioned_opening {x : Ring} (at_ : x.phase.state = .opening) (mark : x.phase.sub ≠ .mark)
    (cells : 16 ≤ x.config.cells) (walk : x.walkCell ≠ none → x.walkCount + 2 < x.config.cells) : Positioned x := by
  refine ⟨.inr cells, fun _ => cells, fun _ opening => absurd at_ opening, fun h => ?_, fun h => ?_, fun _ => walk⟩
  · rcases h with h | h <;> simp [h, Phase.sub] at mark
  · simp [h, Phase.sub] at mark

/-- A mark being written stands in the newest cell, before which the live set would end (R13). -/
theorem positioned_mark_cell {x : Ring} (fine : Positioned x) {m : Mark} (held : x.mark = some m)
    (at_ : x.phase = .checkpointingMark ∨ x.phase = .rollingMark) :
    16 ≤ x.config.cells ∧ 2 ≤ x.live ∧ x.live ≤ x.config.cells ∧ m.cell = (x.release + x.live - 1) % x.config.cells ∧
      x.produce = (x.release + x.live) % x.config.cells := by
  obtain ⟨-, cells, positions, mark, -⟩ := fine
  have closed : x.phase ≠ .closed := by rcases at_ with h | h <;> simp [h]
  obtain ⟨-, fits, -, produce⟩ := positions closed (by rcases at_ with h | h <;> simp [h, Phase.state])
  obtain ⟨two, m', held', cell⟩ := mark at_
  obtain rfl := Option.some.inj (held.symm.trans held')
  exact ⟨cells closed, two, fits, cell, produce⟩

/-! ### The acts -/

/-- The reservation of a mark takes the cell that was kept free for it (R10, R13). -/
theorem positioned_reserveMark {x y : Ring} (at_ : y.phase = .checkpointingMark ∨ y.phase = .rollingMark)
    (h : x.steady) (config : y.config = x.config) (release : y.release = x.release) (live : y.live = x.live + 1)
    (produce : y.produce = (x.produce + 1) % x.config.cells) (mark : ∃ m, y.mark = some m ∧ m.cell = x.produce) :
    Positioned y := by
  obtain ⟨cells, some, room, follows⟩ := h
  obtain ⟨m, held, cell⟩ := mark
  refine ⟨.inr (by rwa [config]), fun _ => by rwa [config], fun _ _ => ?_, fun _ => ⟨by omega, m, held, ?_⟩, fun h => ?_,
    fun h => ?_⟩
  · rw [config, live]
    refine ⟨by omega, room, fun h => ?_, ?_⟩
    · rcases at_ with e | e <;> simp [e, Phase.sub] at h
    · rw [produce, release, follows, Nat.mod_add_mod, Nat.add_assoc]
  · rw [cell, follows, config, release, live]
    rfl
  · rcases at_ with e | e <;> simp [e] at h
  · rcases at_ with e | e <;> simp [e, Phase.state] at h

/-- The cell after the newest, counted from the newest (R99, R116). -/
theorem cell_after_mark (release live cells : Nat) (h : 1 ≤ live) :
    (release + live) % cells = ((release + live - 1) % cells + 1) % cells := by
  rw [Nat.mod_add_mod]
  congr 1
  omega

theorem RingMove.positioned {x y : Ring} (h : RingMove x y) (fine : Positioned x) : Positioned y := by
  have steady {p : Phase} (at_ : x.phase = p) (closed : p ≠ .closed) (opening : p.state ≠ .opening)
      (mark : p.sub ≠ .mark) : x.steady := .of_positioned fine (at_ ▸ closed) (at_ ▸ opening) (at_ ▸ mark)
  have ⟨legal, cells, _, _, fresh, walk⟩ := fine
  cases h with
  | books y h =>
    exact positioned_congr fine (congrArg RingConfig.cells h.config) h.phase h.live h.produce h.release h.mark h.walkCell
      h.walkCount
  | scores | disarmsHigh | disarmsFull => exact fine
  | stepsBack | finds => exact positioned_congr fine rfl rfl rfl rfl rfl rfl rfl rfl
  | takesReport seq => rw [takeReport_eq]; exact positioned_congr fine rfl rfl rfl rfl rfl rfl rfl rfl
  | startsCheckpoint reason from_ =>
    refine positioned_of_steady (by simp [Phase.state]) (by simp [Phase.sub]) ?_
    exact from_.elim (steady · (by decide) (by decide) (by decide)) fun h => steady h.1 (by decide) (by decide) (by decide)
  | startsClose from_ =>
    refine positioned_of_steady (by simp [Phase.state]) (by simp [Phase.sub]) ?_
    exact from_.elim (steady · (by decide) (by decide) (by decide)) fun h => steady h.1 (by decide) (by decide) (by decide)
  | marksCheckpoint reason released at_ more idle =>
    exact positioned_reserveMark (.inl rfl) (steady at_ (by decide) (by decide) (by decide)) rfl rfl rfl rfl ⟨_, rfl, rfl⟩
  | marksRollback released at_ more =>
    exact positioned_reserveMark (.inr rfl) (steady at_ (by decide) (by decide) (by decide)) rfl rfl rfl rfl ⟨_, rfl, rfl⟩
  | marksFresh at_ =>
    have big := cells (by simp [at_])
    refine ⟨.inr big, fun _ => big, fun _ opening => absurd rfl opening, by simp, fun _ => ⟨?_, _, rfl, rfl⟩,
      fun _ => walk (by rw [at_]; rfl)⟩
    show (0 + 1) % x.config.cells = 1
    exact Nat.mod_eq_of_lt (by omega)
  | restores cell seq at_ idle =>
    exact positioned_of_steady (by simp [Phase.state]) (by simp [Phase.sub])
      (steady at_ (by decide) (by decide) (by decide))
  | searches at_ =>
    exact positioned_opening rfl (by simp [Phase.sub]) (cells (by simp [at_])) (walk (by rw [at_]; rfl))
  | walks part cell n at_ room =>
    exact positioned_opening (congrArg Phase.state at_) (by simp [at_, Phase.sub]) (cells (by simp [at_])) fun _ => room
  | recovers m n at_ found room =>
    have big := cells (by simp [at_])
    have fits : n + 2 ≤ x.config.cells := by
      rcases room with h | ⟨some, h⟩
      · omega
      · have := walk (by rw [at_]; rfl) some
        omega
    exact positioned_of_steady (by simp [Ring.activated, Phase.state]) (by simp [Ring.activated, Phase.sub])
      ⟨big, Nat.le_add_left .., fits, rfl⟩
  | completesCheckpoint m at_ held =>
    obtain ⟨big, two, fits, cell, produce⟩ := positioned_mark_cell fine held (.inl at_)
    refine positioned_of_steady (by simp [Ring.activated, Phase.state]) (by simp [Ring.activated, Phase.sub])
      ⟨big, le_rfl, by show 2 ≤ x.config.cells; omega, ?_⟩
    show x.produce = (m.cell + 1) % x.config.cells
    rw [produce, cell, ← cell_after_mark _ _ _ (by omega)]
  | completesRollback m at_ held =>
    obtain ⟨big, two, fits, cell, produce⟩ := positioned_mark_cell fine held (.inr at_)
    refine positioned_of_steady (by simp [Ring.activated, Phase.state]) (by simp [Ring.activated, Phase.sub])
      ⟨big, le_rfl, by show 2 ≤ x.config.cells; omega, ?_⟩
    show x.produce = (m.cell + 1) % x.config.cells
    rw [produce, cell, ← cell_after_mark _ _ _ (by omega)]
  | completesFresh m at_ held =>
    have big := cells (by simp [at_])
    obtain ⟨produce, m', held', cell⟩ := fresh at_
    obtain rfl := Option.some.inj (held.symm.trans held')
    refine positioned_of_steady (by simp [Ring.activated, Phase.state]) (by simp [Ring.activated, Phase.sub])
      ⟨big, le_rfl, by show 2 ≤ x.config.cells; omega, ?_⟩
    show x.produce = (m.cell + 1) % x.config.cells
    rw [produce, cell, Nat.mod_eq_of_lt (by omega)]
  | failsOpen | closes => exact positioned_closed rfl legal
  | grants line at_ more room =>
    have h : x.steady := by rcases at_ with h | h | h | h <;> exact steady h (by decide) (by decide) (by decide)
    obtain ⟨big, some, -, follows⟩ := h
    have phase : (x.grantRecord line).phase = x.phase := offer_phase ..
    have config : (x.grantRecord line).config = x.config := by
      show (x.offer line x.produce).config = _
      rw [offer_eq]
    have release : (x.grantRecord line).release = x.release := by
      show (x.offer line x.produce).release = _
      rw [offer_eq]
    refine positioned_of_steady (by rw [phase]; rcases at_ with h | h | h | h <;> simp [h, Phase.state])
      (by rw [phase]; rcases at_ with h | h | h | h <;> simp [h, Phase.sub]) ?_
    unfold Ring.steady
    rw [config, release]
    refine ⟨big, Nat.le_add_left .., room, ?_⟩
    show (x.produce + 1) % x.config.cells = (x.release + (x.live + 1)) % x.config.cells
    rw [follows, Nat.mod_add_mod, Nat.add_assoc]

/-- A ring that breaks leaves MARK only with its mark withdrawn, when the contexts belong to their rings as R58 has it. -/
theorem BreakFrom.steady {s0 : State} {r : RingId} {x y : Ring} (h : BreakFrom s0 r x y) (belongs : BelongingLaw s0)
    (may : x.phase.mayBreak = true) (fine : Positioned x) : y.steady := by
  obtain ⟨closed, opening, -⟩ := (Phase.mayBreak_iff _).1 may
  cases h with
  | plain n fits noMark =>
    have mark : x.phase.sub ≠ .mark := by
      intro mark
      obtain ⟨before, k, c, held, own⟩ := noMark mark
      obtain ⟨-, -, apart, -⟩ := belongs
      obtain ⟨-, opening0, -, rolling0, checkpointing0⟩ := apart k c r held own
      cases h : (s0.ring r).phase <;> simp_all [Phase.sub, Phase.state]
    exact Ring.steady.of_positioned fine closed opening mark
  | withdrawn n fits at_ =>
    have ⟨_, _, _, mark, _⟩ := fine
    obtain ⟨-, m, held, -⟩ := mark at_
    obtain ⟨big, two, room, cell, -⟩ := positioned_mark_cell fine held at_
    simp only [Ring.steady, Ring.withdrawMark, held]
    refine ⟨big, by omega, by omega, ?_⟩
    rw [cell]
    congr 1
    omega

theorem RingStep.positioned {c : Instr} {s0 : State} {q : RingId} {mode : Mode} {x y : Ring}
    (belongs : BelongingLaw s0) (h : RingStep c s0 q mode x y) (fine : Positioned x) : Positioned y := by
  have ⟨legal, cells, _⟩ := fine
  cases h with
  | move y h => exact h.positioned fine
  | traffic | time | setsInterval => exact positioned_congr fine rfl rfl rfl rfl rfl rfl rfl rfl
  | opens openMode run first from_ some score =>
    exact positioned_opening rfl (by simp [Phase.sub]) (legal.resolve_left some) fun h => absurd rfl h
  | rollsBack from_ =>
    have h : x.steady :=
      .of_positioned fine (by simp [from_]) (by simp [from_, Phase.state]) (by simp [from_, Phase.sub])
    exact positioned_of_steady (by simp [Phase.state]) (by simp [Phase.sub]) h
  | configures cfg by_ at_ cells => exact positioned_closed at_ cells
  | breaks y cause steered may h =>
    exact positioned_of_steady (by simp [Ring.broken, Phase.state]) (by simp [Ring.broken, Phase.sub])
      (h.steady belongs may fine)
  | resets => exact positioned_closed rfl legal
  | device => exact positioned_closed rfl (.inl rfl)

/-- Settles O56: the positions of each ring are kept by every elementary act. -/
theorem everyStepKeepsTheLiveSet : Obligations.EveryStepKeepsTheLiveSet := by
  intro s t law belongs h r
  obtain ⟨c, rest, acts⟩ := step_acts s t h
  have belongs : BelongingLaw { s with pending := rest } := belongs
  exact acts.keepsRing (P := Positioned) r (fun _ _ _ step => step.positioned belongs) (law r)

end Sys2Proof.Machine

/-! The write-ahead law of contexts (R53). -/

namespace Sys2Proof.Machine

open Safety

/-! ### The contexts after each act -/

section
variable (s : State) (r : RingId) (k : CtxId)

theorem forwardCtx_ctx (j : CtxId) : (s.forwardCtx k).ctx j = s.ctx j ∨
    ∃ y, s.ctx j = some y ∧ y.phase.holds ∧ j = k ∧
      (s.forwardCtx k).ctx j = some { y with phase := .forwarded, access := .none, stopped := true } := by
  unfold State.forwardCtx
  split
  · exact .inl rfl
  · next y held =>
    split
    · exact .inl rfl
    · next at_ =>
      rw [State.decide_ctx]
      by_cases e : j = k
      · subst e
        rw [State.setCtx_ctx_self]
        exact .inr ⟨y, held, not_or.1 at_, rfl, rfl⟩
      · exact .inl (State.setCtx_ctx_ne _ _ _ _ e)

theorem answerCtx_ctx (j : CtxId) : (s.answerCtx k).ctx j = s.ctx j ∨
    ∃ y, s.ctx j = some y ∧ j = k ∧
      (s.answerCtx k).ctx j = some { y with phase := .answering, access := .none, image := none } := by
  unfold State.answerCtx
  split
  · exact .inl rfl
  · next y held =>
    show (s.setCtx k _).ctx j = _ ∨ _
    by_cases e : j = k
    · subst e
      exact .inr ⟨y, held, rfl, State.setCtx_ctx_self ..⟩
    · exact .inl (State.setCtx_ctx_ne _ _ _ _ e)

theorem resetRing_ctx (j : CtxId) : (s.resetRing r).ctx j = (s.ctx j).map (·.afterReset r) := by
  simp only [resetRing_split, State.askPass_ctx, State.raise_ctx, State.decideAll_ctx]
  exact mapVec_get ..

theorem frontierRise_ctx (j : CtxId) : (s.frontierRise r).ctx j = (s.ctx j).map fun y =>
    if y.passedBy r (s.ring r).frontier then { y with phase := .forwarded } else y := by
  unfold State.frontierRise
  simp only [State.decideAll_ctx]
  exact mapVec_get ..

theorem freeCarrier_ctx (t : HostTag) (j : CtxId) :
    (s.freeCarrier t).ctx j = if carries? t (s.ctx j) then none else s.ctx j := by
  unfold State.freeCarrier
  split
  · exact mapVec_get ..
  · next no =>
    have : carries? t (s.ctx j) = false := by
      by_contra yes
      exact no (List.any_eq_true.2 ⟨s.ctx j, by simp [State.ctx, Vector.get], by simpa using yes⟩)
    simp [this]

theorem afterReturn_ctx (p : HostResponse) (ps : List HostResponse) (j : CtxId) :
    (s.afterReturn p ps).ctx j = if carries? p.tag (s.ctx j) then none else s.ctx j := by
  unfold State.afterReturn
  simp only
  split <;> exact freeCarrier_ctx ..

theorem Placed.ctx {s u : State} {q : HostRequest} (h : Placed s q u) (j : CtxId) : u.ctx j = s.ctx j ∨
    ∃ r, s.ctx j = none ∧ (s.ring r).phase = .active ∧ u.ctx j = some
      { req := q, ring := some r, phase := .preRead, image := none, reserved := none, retryUsed := false,
        access := .waiting, stopped := false } := by
  cases h with
  | answered st data => exact .inl rfl
  | decided src => exact .inl (State.decide_ctx ..)
  | counted src r => exact .inl (by rw [State.decide_ctx, countWrite_eq]; rfl)
  | steered r cell => exact .inl rfl
  | context k r free active =>
    rw [countWrite_eq]
    show (s.setCtx k _).ctx j = _ ∨ _
    by_cases e : j = k
    · subst e
      exact .inr ⟨r, free, active, State.setCtx_ctx_self ..⟩
    · exact .inl (State.setCtx_ctx_ne _ _ _ _ e)

theorem inDeviceReset_ctx (j : CtxId) : s.inDeviceReset.ctx j = none := by
  fin_cases j <;> rfl

end

/-! ### No act but the rise of the frontier forwards a write that is still journaled -/

/-- The context forwards its host write with journaling not stopped (R52, R53). -/
def Context.journaled (y : Context) : Prop := y.phase = .forwarded ∧ y.stopped = false

/-- The same write, of the same ring and with the same record. -/
def Context.sameWrite (y z : Context) : Prop := z.req = y.req ∧ z.ring = y.ring ∧ z.reserved = y.reserved

/-- Every context that forwards with journaling not stopped did so before. -/
def Cautious (s t : State) : Prop :=
  ∀ k y, t.ctx k = some y → y.journaled → ∃ z, s.ctx k = some z ∧ z.journaled ∧ y.sameWrite z

theorem Cautious.refl (s : State) : Cautious s s := fun _ y held h => ⟨y, held, h, rfl, rfl, rfl⟩

theorem Cautious.trans {s t u : State} (h : Cautious s t) (g : Cautious t u) : Cautious s u := by
  intro k y held journaled
  obtain ⟨z, held, journaled, req, ring, reserved⟩ := g k y held journaled
  obtain ⟨w, held, journaled, req', ring', reserved'⟩ := h k z held journaled
  exact ⟨w, held, journaled, req'.trans req, ring'.trans ring, reserved'.trans reserved⟩

/-- An act under which each context stays, goes, or becomes one that does not forward with journaling. -/
theorem Cautious.of_ctx {s t : State}
    (h : ∀ k, t.ctx k = s.ctx k ∨ t.ctx k = none ∨ ∃ y, t.ctx k = some y ∧ ¬y.journaled) : Cautious s t := by
  intro k y held journaled
  rcases h k with same | gone | ⟨z, held', no⟩
  · exact ⟨y, same.symm.trans held, journaled, rfl, rfl, rfl⟩
  · simp [gone] at held
  · obtain rfl := Option.some.inj (held.symm.trans held')
    exact absurd journaled no

theorem afterBreak_cases (y : Context) (r : RingId) : y.afterBreak r = y ∨ (y.afterBreak r).stopped = true := by
  unfold Context.afterBreak
  split
  · exact .inr rfl
  · split
    · exact .inr rfl
    · exact .inl rfl

theorem afterReset_cases (y : Context) (r : RingId) : y.afterReset r = y ∨ (y.afterReset r).stopped = true := by
  unfold Context.afterReset
  split
  · exact .inr rfl
  · split
    · exact .inr rfl
    · exact .inl rfl

/-- Each context stays or stops journaling. -/
theorem Cautious.of_stops {s t : State} (f : Context → Context) (ctx : ∀ k, t.ctx k = (s.ctx k).map f)
    (h : ∀ y, f y = y ∨ (f y).stopped = true) : Cautious s t := by
  refine .of_ctx fun k => ?_
  rw [ctx]
  cases s.ctx k with
  | none => exact .inl rfl
  | some y =>
    rcases h y with same | stops
    · exact .inl (congrArg some same)
    · exact .inr (.inr ⟨f y, rfl, fun no => by simp [no.2] at stops⟩)

theorem Act.cautious {c : Instr} {s0 s t : State} (h : Act c s0 s t) (no : ∀ r q, c ≠ .durabilityReport r q) :
    Cautious s t := by
  have same {u : State} (h : ∀ k, u.ctx k = s.ctx k) : Cautious s u := .of_ctx fun k => .inl (h k)
  have placed {u v : State} {q : HostRequest} (h : Placed u q v) (h0 : ∀ k, u.ctx k = s.ctx k) : Cautious s v := by
    refine .of_ctx fun k => ?_
    rcases h.ctx k with same | ⟨r, -, -, held⟩
    · exact .inl (same.trans (h0 k))
    · exact .inr (.inr ⟨_, held, fun h => by simp [Context.journaled] at h⟩)
  cases h with
  | quiet t h => exact same fun k => congrArg (·.get k) h.contexts
  | raises b => exact same fun k => State.raise_ctx ..
  | breaks r x cause may h => exact .of_stops _ (becomeBroken_ctx (s.setRing r x) · r cause) (afterBreak_cases · r)
  | resets r => exact .of_stops _ (resetRing_ctx s r) (afterReset_cases · r)
  | forwards k =>
    refine .of_ctx fun j => ?_
    rcases forwardCtx_ctx s k j with h | ⟨y, -, -, -, h⟩
    · exact .inl h
    · exact .inr (.inr ⟨_, h, fun h => by simp [Context.journaled] at h⟩)
  | answersCtx k h =>
    refine .of_ctx fun j => ?_
    rcases answerCtx_ctx s k j with h | ⟨y, -, -, h⟩
    · exact .inl h
    · exact .inr (.inr ⟨_, h, fun h => by simp [Context.journaled] at h⟩)
  | context k y z held h =>
    intro j w held' journaled
    by_cases e : j = k
    · subst e
      obtain rfl := Option.some.inj ((State.setCtx_ctx_self ..).symm.trans held')
      rcases h.phase with ⟨phase, reserved⟩ | ⟨-, holds, -⟩
      · refine ⟨y, held, ⟨phase ▸ journaled.1, ?_⟩, h.req.symm, h.ring.symm, reserved.symm⟩
        by_contra stops
        exact absurd journaled.2 (by simp [h.stopped (by simpa using stops)])
      · exact absurd journaled.1 holds
    · exact ⟨w, (State.setCtx_ctx_ne _ _ _ _ e).symm.trans held', journaled, rfl, rfl, rfl⟩
  | rises r by_ => obtain ⟨q, e⟩ := by_; exact absurd e (no r q)
  | retries r => exact same fun k => by rw [retryHeld_eq]; rfl
  | arrives q u free h => exact placed h fun _ => rfl
  | leaves ahead e es u at_ h => exact placed h fun _ => rfl
  | steerEnds r q u held h => exact placed h.placed fun _ => rfl
  | returns p ps h =>
    refine .of_ctx fun k => ?_
    rw [afterReturn_ctx]
    split
    · exact .inr (.inl rfl)
    · exact .inl rfl
  | issues => exact same fun k => by rw [issueHost_eq]; rfl
  | memory t st data => exact same fun k => by rw [hostMemoryResponse_eq]; rfl
  | device by_ => exact .of_ctx fun k => .inr (.inl (inDeviceReset_ctx s k))
  | time | ring | opens | rollsBack | configures | setsInterval | arrivesHeld | stays | loads | takes | answers
  | takesFrame | endsFrame | collects | reads | mode | region => exact same fun _ => rfl

/-! ### The rise of the frontier (R52) -/

/-- The ring controller has taken a report off the list of those that wait (R18). -/
def State.reported (s : State) (r : RingId) (seq : Seq) : State :=
  { s with reports := s.reports.erase ⟨r, seq⟩ }.setRing r ((s.ring r).takeReport seq)

theorem takeReport_unsent (s : State) (r : RingId) (seq : Seq) (h : (⟨r, seq⟩ : Report) ∉ s.reports) :
    s.takeReport r seq = s := by simp [State.takeReport, h]

theorem takeReport_still (s : State) (r : RingId) (seq : Seq) (h : (⟨r, seq⟩ : Report) ∈ s.reports)
    (same : ((s.ring r).takeReport seq).frontier = (s.ring r).frontier) : s.takeReport r seq = s.reported r seq := by
  simp [State.takeReport, State.reported, h, same]

theorem takeReport_rises (s : State) (r : RingId) (seq : Seq) (h : (⟨r, seq⟩ : Report) ∈ s.reports)
    (rises : ((s.ring r).takeReport seq).frontier ≠ (s.ring r).frontier) :
    s.takeReport r seq = (s.reported r seq).frontierRise r := by
  simp [State.takeReport, State.reported, h, rises]

/-- A context passed by the frontier awaited it, with its record at or below it (R52). -/
theorem passedBy_iff (y : Context) (r : RingId) (frontier : Seq) : y.passedBy r frontier = true ↔
    y.ring = some r ∧ y.phase = .awaitFrontier ∧ ∃ v, y.reserved = some v ∧ v.seq ≤ frontier := by
  cases h : y.reserved <;> simp [Context.passedBy, h, and_assoc]

/-- What O59 says of one context: it forwarded with journaling before, or its own record is at or below the frontier. -/
def ForwardsBehindRecord (s t : State) (k : CtxId) (y : Context) : Prop :=
  ∃ z, s.ctx k = some z ∧ z.req = y.req ∧ z.stopped = false ∧ z.ring = y.ring ∧ z.reserved = y.reserved ∧
    (z.phase = .forwarded ∨ (z.phase = .awaitFrontier ∧ ∃ r v, y.ring = some r ∧ y.reserved = some v ∧
      v.seq ≤ (t.ring r).frontier))

/-- A durability report forwards with journaling only the contexts whose own record the frontier has passed (R52). -/
theorem takeReport_journaled (s : State) (r : RingId) (seq : Seq) (k : CtxId) (y : Context)
    (held : (s.takeReport r seq).ctx k = some y) (journaled : y.journaled) :
    ForwardsBehindRecord s (s.takeReport r seq) k y := by
  obtain ⟨forwarded, journaling⟩ := journaled
  have old (held : s.ctx k = some y) : ForwardsBehindRecord s (s.takeReport r seq) k y :=
    ⟨y, held, rfl, journaling, rfl, rfl, .inl forwarded⟩
  by_cases sent : (⟨r, seq⟩ : Report) ∈ s.reports
  · by_cases same : ((s.ring r).takeReport seq).frontier = (s.ring r).frontier
    · rw [takeReport_still s r seq sent same] at held
      exact old held
    · have rises := takeReport_rises s r seq sent same
      rw [rises, frontierRise_ctx] at held
      obtain ⟨z, held', after⟩ := Option.map_eq_some_iff.1 held
      split at after
      · next passed =>
        subst after
        obtain ⟨ring, await, v, reserved, below⟩ := (passedBy_iff ..).1 passed
        refine ⟨z, held', rfl, journaling, rfl, rfl, .inr ⟨await, r, v, ring, reserved, ?_⟩⟩
        rwa [rises, frontierRise_ring]
      · subst after
        exact old held'
  · rw [takeReport_unsent s r seq sent] at held
    exact old held

theorem exec_durabilityReport (s : State) (r : RingId) (seq : Seq) :
    exec (.durabilityReport r seq) s = running s (s.takeReport r seq) := rfl

/-- Settles O59: no elementary act but the rise of the frontier forwards a write that is still journaled, and that act
passes the context's own record. -/
theorem writeAheadLaw : Obligations.WriteAheadLaw := by
  intro s t k y h held forwarded journaling
  have careful (u : State) (same : ∀ k, u.ctx k = s.ctx k) (h : Cautious u t) : ForwardsBehindRecord s t k y := by
    obtain ⟨z, held, ⟨forwarded, journaling⟩, req, ring, reserved⟩ := h k y held ⟨forwarded, journaling⟩
    exact ⟨z, (same k).symm.trans held, req, journaling, ring, reserved, .inl forwarded⟩
  unfold step at h
  split at h
  · obtain rfl := Host.Outcome.next.inj h
    refine careful s (fun _ => rfl) (.of_ctx fun k => .inl ?_)
    unfold State.tick
    split <;> rfl
  · next c rest _ =>
    by_cases report : ∃ r seq, c = .durabilityReport r seq
    · obtain ⟨r, seq, rfl⟩ := report
      rw [exec_durabilityReport] at h
      cases reset : ({ s with pending := rest } : State).inReset with
      | true =>
        rw [running_reset _ _ reset] at h
        obtain rfl := Host.Outcome.next.inj h
        exact careful _ (fun _ => rfl) (.refl _)
      | false =>
        rw [running_eq _ _ reset] at h
        obtain rfl := Host.Outcome.next.inj h
        exact takeReport_journaled _ r seq k y held ⟨forwarded, journaling⟩
    · have no (r : RingId) (q : Seq) : c ≠ .durabilityReport r q := fun e => report ⟨r, q, e⟩
      have cautious : Cautious { s with pending := rest } t := (exec_acts _ t h).keeps
        (P := Cautious { s with pending := rest }) (fun _ _ act so => so.trans (act.cautious no)) (.refl _)
      exact careful _ (fun _ => rfl) cautious

end Sys2Proof.Machine

/-! Where a host tag stands, counted over the tables: what each shared act makes of the count (R57, R157). -/

namespace Sys2Proof.Machine

open Safety

/-! ### Counting over a fixed table -/

theorem vec_toList_eq_ofFn {α : Type} {n : Nat} (v : Vector α n) : v.toList = List.ofFn v.get :=
  List.ext_getElem (by simp) fun i _ _ => by simp [Vector.get]

theorem vec_sum {α : Type} {n : Nat} (v : Vector α n) (f : α → Nat) : (v.toList.map f).sum = ∑ i, f (v.get i) := by
  rw [vec_toList_eq_ofFn, List.map_ofFn, List.sum_ofFn]
  rfl

theorem countP_eq_sum {α : Type} (l : List α) (p : α → Bool) : l.countP p = (l.map fun a => (p a).toNat).sum := by
  induction l with
  | nil => rfl
  | cons a l ih => cases h : p a <;> simp [h, ih, Nat.add_comm]

theorem vec_countP {α : Type} {n : Nat} (v : Vector α n) (p : α → Bool) :
    v.toList.countP p = ∑ i, (p (v.get i)).toNat := by rw [countP_eq_sum, vec_sum]

/-- Two sums that differ in one place. -/
theorem sum_swap {n : Nat} (f g : Fin n → Nat) (k : Fin n) (h : ∀ i, i ≠ k → g i = f i) :
    ∑ i, g i + f k = ∑ i, f i + g k := by
  have same : ∑ i ∈ Finset.univ.erase k, g i = ∑ i ∈ Finset.univ.erase k, f i :=
    Finset.sum_congr rfl fun i hi => h i (Finset.ne_of_mem_erase hi)
  have hf := Finset.add_sum_erase _ f (Finset.mem_univ k)
  have hg := Finset.add_sum_erase _ g (Finset.mem_univ k)
  omega

/-! ### The parts of the count -/

/-- The context holds the host request of the tag: it has neither forwarded nor answered it. -/
def standsIn (h : HostTag) : Option Context → Bool
  | some x => x.req.tag == h && x.phase != .forwarded && x.phase != .answering
  | none => false

theorem standsIn_holds (h : HostTag) {x : Context} (holds : x.phase.holds) : standsIn h (some x) = (x.req.tag == h) := by
  obtain ⟨forwarded, answering⟩ := holds
  simp [standsIn, bne_iff_ne.2 forwarded, bne_iff_ne.2 answering]

theorem standsIn_gone (h : HostTag) {x : Context} (gone : x.phase = .forwarded ∨ x.phase = .answering) :
    standsIn h (some x) = false := by
  rcases gone with e | e <;> simp [standsIn, e]

/-- The tag's entry names the ring as its counted ring. -/
def countsFor (r : RingId) : Option TagEntry → Bool
  | some e => e.counted == some r
  | none => false

def Ring.steers (x : Ring) (h : HostTag) : Nat := x.steered.countP fun q => q.req.tag == h

def State.inContexts (s : State) (h : HostTag) : Nat := ∑ k, (standsIn h (s.ctx k)).toNat

def State.inSteering (s : State) (h : HostTag) : Nat := ∑ r, (s.ring r).steers h

def State.inHold (s : State) (h : HostTag) : Nat := s.hold.countP fun e => e.req.tag == h

def State.inQueue (s : State) (h : HostTag) : Nat :=
  s.decided.countP (fun d => d.req.tag == h) + s.forward.countP fun q => q.tag == h

def State.inMemory (s : State) (h : HostTag) : Nat := ((s.tagEntry h).any (·.atMemory)).toNat

def State.inReady (s : State) (h : HostTag) : Nat := s.ready.countP fun p => p.tag == h

theorem places_eq (s : State) (h : HostTag) : places s h =
    s.inHold h + s.inContexts h + s.inSteering h + s.inQueue h + s.inMemory h + s.inReady h := by
  unfold places
  rw [vec_countP, vec_sum]
  have memory : s.inMemory h = if (s.tagEntry h).any (·.atMemory) then 1 else 0 := by
    unfold State.inMemory
    cases (s.tagEntry h).any (·.atMemory) <;> rfl
  rw [memory]
  show s.inHold h + s.inContexts h + s.inSteering h + _ + _ + _ + s.inReady h = _
  unfold State.inQueue
  omega

theorem countedFor_eq (s : State) (r : RingId) : countedFor s r = ∑ h, (countsFor r (s.tagEntry h)).toNat := by
  unfold countedFor
  rw [vec_countP]
  rfl

theorem steers_congr {x y : Ring} (same : y.steered.map (·.req) = x.steered.map (·.req)) (h : HostTag) :
    y.steers h = x.steers h := by
  have (l : List Steered) : (l.countP fun q => q.req.tag == h) = (l.map (·.req)).countP fun q => q.tag == h := by
    rw [List.countP_map]
    rfl
  unfold Ring.steers
  rw [this, this, same]

/-! ### The law with requests in hand -/

/-- The traffic law of a state from which some requests have been taken: `extra` counts them by their tags. -/
def State.Carries (s : State) (extra : HostTag → Nat) : Prop :=
  (∀ h, places s h + extra h = if (s.tagEntry h).isSome then 1 else 0) ∧
  (∀ e ∈ s.hold, (s.tagEntry e.req.tag).bind (·.counted) = none) ∧ ∀ r, (s.ring r).inFlight = countedFor s r

theorem trafficLaw_iff (s : State) : TrafficLaw s ↔ s.Carries fun _ => 0 := Iff.rfl

/-- One request in hand, with its tag. -/
def inHand (u h : HostTag) : Nat := if u = h then 1 else 0

theorem toNat_beq_tag (u h : HostTag) : (u == h).toNat = inHand u h := by
  unfold inHand
  split
  · next e => simp [e]
  · next e => rw [beq_eq_false_iff_ne.2 e]; rfl

/-- With the tags and the counts as they were, the law follows from the places. -/
theorem State.Carries.of_places {s t : State} {a b : HostTag → Nat} (law : s.Carries a) (tags : t.tags = s.tags)
    (moved : ∀ h, places t h + b h = places s h + a h) (hold : ∀ e ∈ t.hold, ∃ e' ∈ s.hold, e'.req = e.req)
    (inFlight : ∀ r, (t.ring r).inFlight = (s.ring r).inFlight) : t.Carries b := by
  obtain ⟨place, held, count⟩ := law
  have entry (h : HostTag) : t.tagEntry h = s.tagEntry h := congrArg (·.get h) tags
  refine ⟨fun h => ?_, fun e he => ?_, fun r => ?_⟩
  · rw [moved, entry, place]
  · obtain ⟨e', he', same⟩ := hold e he
    rw [entry, ← same]
    exact held e' he'
  · rw [inFlight, count, countedFor, countedFor, tags]

/-- An act that moves no request. -/
theorem State.Carries.congr {s t : State} {a : HostTag → Nat} (law : s.Carries a) (hold : t.hold = s.hold)
    (ctx : ∀ k h, standsIn h (t.ctx k) = standsIn h (s.ctx k))
    (steered : ∀ r, (t.ring r).steered.map (·.req) = (s.ring r).steered.map (·.req)) (decided : t.decided = s.decided)
    (forward : t.forward = s.forward) (tags : t.tags = s.tags) (ready : t.ready = s.ready)
    (inFlight : ∀ r, (t.ring r).inFlight = (s.ring r).inFlight) : t.Carries a := by
  refine law.of_places tags (fun h => ?_) (fun e he => ⟨e, hold ▸ he, rfl⟩) inFlight
  have entry : t.tagEntry h = s.tagEntry h := congrArg (·.get h) tags
  have steers (r : RingId) : (t.ring r).steers h = (s.ring r).steers h := steers_congr (steered r) h
  simp only [places_eq, State.inHold, State.inContexts, State.inSteering, State.inQueue, State.inMemory, State.inReady,
    hold, ctx, steers, decided, forward, entry, ready]

/-! ### The parts after the basic acts -/

section
variable (s : State) (h : HostTag)

theorem setCtx_inContexts (k : CtxId) (y : Option Context) :
    (s.setCtx k y).inContexts h + (standsIn h (s.ctx k)).toNat = s.inContexts h + (standsIn h y).toNat := by
  have := sum_swap (fun j => (standsIn h (s.ctx j)).toNat) (fun j => (standsIn h ((s.setCtx k y).ctx j)).toNat) k
    fun j ne => by rw [State.setCtx_ctx_ne _ _ _ _ ne]
  rwa [State.setCtx_ctx_self] at this

theorem setRing_inSteering (r : RingId) (x : Ring) :
    (s.setRing r x).inSteering h + (s.ring r).steers h = s.inSteering h + x.steers h := by
  have := sum_swap (fun q => (s.ring q).steers h) (fun q => ((s.setRing r x).ring q).steers h) r
    fun q ne => by rw [State.setRing_ring_ne _ _ _ _ ne]
  rwa [State.setRing_ring_self] at this

theorem setTag_countedFor (r : RingId) (u : HostTag) (e : Option TagEntry) :
    countedFor (s.setTag u e) r + (countsFor r (s.tagEntry u)).toNat = countedFor s r + (countsFor r e).toNat := by
  have := sum_swap (fun h => (countsFor r (s.tagEntry h)).toNat) (fun h => (countsFor r ((s.setTag u e).tagEntry h)).toNat) u
    fun h ne => by rw [State.setTag_tagEntry_ne _ _ _ _ ne]
  rwa [State.setTag_tagEntry_self, ← countedFor_eq, ← countedFor_eq] at this

theorem decide_inQueue (d : Decided) : (s.decide d).inQueue h = s.inQueue h + inHand d.req.tag h := by
  unfold State.decide State.inQueue inHand
  split <;> simp [List.countP_append, List.countP_singleton] <;> omega

theorem decideAll_inQueue (ds : List Decided) :
    (s.decideAll ds).inQueue h = s.inQueue h + ds.countP fun d => d.req.tag == h := by
  have fold (ds : List Decided) : ∀ u : State, (ds.foldl State.decide u).inQueue h =
      u.inQueue h + ds.countP fun d => d.req.tag == h := by
    induction ds with
    | nil => exact fun _ => rfl
    | cons d ds ih =>
      intro u
      rw [List.foldl_cons, ih, decide_inQueue, List.countP_cons]
      simp only [inHand, beq_iff_eq]
      omega
  rw [State.decideAll, fold, (State.freeOrder_perm s ds).countP_eq]
  rfl

theorem respond_inReady (u : HostTag) (st : HostStatus) (data : List Byte) :
    (s.respond u st data).inReady h = s.inReady h + inHand u h := by
  simp [inHand, State.inReady, State.respond, List.countP_append, List.countP_singleton]

theorem decide_places (d : Decided) : places (s.decide d) h = places s h + inHand d.req.tag h := by
  have queue := decide_inQueue s h d
  simp only [places_eq] at *
  have rest : (s.decide d).inHold h = s.inHold h ∧ (s.decide d).inContexts h = s.inContexts h ∧
      (s.decide d).inSteering h = s.inSteering h ∧ (s.decide d).inMemory h = s.inMemory h ∧
      (s.decide d).inReady h = s.inReady h := by
    simp [State.inHold, State.inContexts, State.inSteering, State.inMemory, State.inReady]
  omega

theorem decideAll_places (ds : List Decided) :
    places (s.decideAll ds) h = places s h + ds.countP fun d => d.req.tag == h := by
  have queue := decideAll_inQueue s h ds
  have rest : (s.decideAll ds).inHold h = s.inHold h ∧ (s.decideAll ds).inContexts h = s.inContexts h ∧
      (s.decideAll ds).inSteering h = s.inSteering h ∧ (s.decideAll ds).inMemory h = s.inMemory h ∧
      (s.decideAll ds).inReady h = s.inReady h := by
    rw [State.decideAll_eq]
    exact ⟨rfl, rfl, rfl, rfl, rfl⟩
  simp only [places_eq]
  omega

theorem respond_places (u : HostTag) (st : HostStatus) (data : List Byte) :
    places (s.respond u st data) h = places s h + inHand u h := by
  have ready := respond_inReady s h u st data
  have rest : (s.respond u st data).inHold h = s.inHold h ∧ (s.respond u st data).inContexts h = s.inContexts h ∧
      (s.respond u st data).inSteering h = s.inSteering h ∧ (s.respond u st data).inMemory h = s.inMemory h ∧
      (s.respond u st data).inQueue h = s.inQueue h := ⟨rfl, rfl, rfl, rfl, rfl⟩
  simp only [places_eq]
  omega

/-- The places after one context has changed. -/
theorem setCtx_places (k : CtxId) (y : Option Context) :
    places (s.setCtx k y) h + (standsIn h (s.ctx k)).toNat = places s h + (standsIn h y).toNat := by
  have ctx := setCtx_inContexts s h k y
  have rest : (s.setCtx k y).inHold h = s.inHold h ∧ (s.setCtx k y).inQueue h = s.inQueue h ∧
      (s.setCtx k y).inSteering h = s.inSteering h ∧ (s.setCtx k y).inMemory h = s.inMemory h ∧
      (s.setCtx k y).inReady h = s.inReady h := ⟨rfl, rfl, rfl, rfl, rfl⟩
  simp only [places_eq]
  omega

/-- The places after one ring has changed. -/
theorem setRing_places (r : RingId) (x : Ring) :
    places (s.setRing r x) h + (s.ring r).steers h = places s h + x.steers h := by
  have steering := setRing_inSteering s h r x
  have rest : (s.setRing r x).inHold h = s.inHold h ∧ (s.setRing r x).inQueue h = s.inQueue h ∧
      (s.setRing r x).inContexts h = s.inContexts h ∧ (s.setRing r x).inMemory h = s.inMemory h ∧
      (s.setRing r x).inReady h = s.inReady h := ⟨rfl, rfl, rfl, rfl, rfl⟩
  simp only [places_eq]
  omega

/-- The places after one tag has changed. -/
theorem setTag_places (u : HostTag) (e : Option TagEntry) :
    places (s.setTag u e) h + s.inMemory h =
      places s h + ((if h = u then e else s.tagEntry h).any (·.atMemory)).toNat := by
  have memory : (s.setTag u e).inMemory h = ((if h = u then e else s.tagEntry h).any (·.atMemory)).toNat := by
    rw [State.inMemory, State.setTag_tagEntry]
  have rest : (s.setTag u e).inHold h = s.inHold h ∧ (s.setTag u e).inQueue h = s.inQueue h ∧
      (s.setTag u e).inContexts h = s.inContexts h ∧ (s.setTag u e).inSteering h = s.inSteering h ∧
      (s.setTag u e).inReady h = s.inReady h := ⟨rfl, rfl, rfl, rfl, rfl⟩
  simp only [places_eq]
  omega

/-! ### Releases of contexts in bulk -/

/-- The host writes of the contexts that satisfy `p`, counted by their tag. -/
theorem writesOf_countP (p : Context → Bool) : ((s.writesOf p).countP fun d => d.req.tag == h) =
    ∑ k, ((s.ctx k).any fun y => p y && y.req.tag == h).toNat := by
  have fold (l : List CtxId) : ((l.filterMap fun c => match s.ctx c with
      | some x => if p x then some (⟨.context c, x.req⟩ : Decided) else none
      | none => none).countP fun d => d.req.tag == h) =
      (l.map fun k => ((s.ctx k).any fun y => p y && y.req.tag == h).toNat).sum := by
    induction l with
    | nil => rfl
    | cons k l ih =>
      cases held : s.ctx k with
      | none => simp [held, ih]
      | some y =>
        by_cases rel : p y = true
        · simp [held, rel, List.countP_cons, ih]
          by_cases own : y.req.tag = h <;> simp [own]
          omega
        · simp [held, rel, ih]
  rw [State.writesOf]
  exact (fold _).trans (by rw [← List.ofFn_eq_map, List.sum_ofFn])

/-- Contexts that satisfy `p` give up their host writes, and the others keep them. -/
theorem release_contexts {t : State} (p : Context → Bool) (f : Context → Context)
    (ctx : ∀ k, t.ctx k = (s.ctx k).map f) (gone : ∀ y, p y = true → y.phase.holds ∧ (f y).phase = .forwarded)
    (kept : ∀ y, p y = false → (f y).req = y.req ∧ (f y).phase = y.phase) :
    t.inContexts h + ((s.writesOf p).countP fun d => d.req.tag == h) = s.inContexts h := by
  rw [writesOf_countP, State.inContexts, State.inContexts, ← Finset.sum_add_distrib]
  refine Finset.sum_congr rfl fun k _ => ?_
  rw [ctx]
  cases held : s.ctx k with
  | none => rfl
  | some y =>
    cases rel : p y with
    | true =>
      obtain ⟨holds, after⟩ := gone y rel
      simp [standsIn_holds h holds, standsIn_gone h (.inl after), rel]
    | false =>
      obtain ⟨req, phase⟩ := kept y rel
      simp [standsIn, rel, req, phase]

end

end Sys2Proof.Machine

/-! Every elementary act keeps each outstanding request in one place and the counts exact (R57, R157). -/

namespace Sys2Proof.Machine

open Safety

section
variable {s : State} {a b : HostTag → Nat}

/-! ### One change at a time -/

/-- A tag that stands somewhere is outstanding, and stands in that place alone (R157). -/
theorem State.Carries.place_le (law : s.Carries a) (h : HostTag) : places s h + a h ≤ 1 := by
  rw [law.1 h]
  split <;> omega

theorem State.Carries.entry (law : s.Carries a) {h : HostTag} (stands : 1 ≤ places s h + a h) :
    ∃ e, s.tagEntry h = some e := by
  have := law.1 h
  split at this
  · next some => exact Option.isSome_iff_exists.1 some
  · omega

theorem State.Carries.decide (law : s.Carries a) (d : Decided) (given : ∀ h, a h = b h + inHand d.req.tag h) :
    (s.decide d).Carries b := by
  refine law.of_places (State.decide_tags ..) (fun h => ?_) (fun e he => ⟨e, by simpa using he, rfl⟩) fun r => by simp
  rw [decide_places, given]
  omega

theorem State.Carries.decideAll (law : s.Carries a) (ds : List Decided)
    (given : ∀ h, a h = b h + ds.countP fun d => d.req.tag == h) : (s.decideAll ds).Carries b := by
  refine law.of_places (State.decideAll_tags ..) (fun h => ?_) (fun e he => ⟨e, by simpa using he, rfl⟩) fun r => by simp
  rw [decideAll_places, given]
  omega

theorem State.Carries.respond (law : s.Carries a) (u : HostTag) (st : HostStatus) (data : List Byte)
    (given : ∀ h, a h = b h + inHand u h) : (s.respond u st data).Carries b := by
  refine law.of_places rfl (fun h => ?_) (fun e he => ⟨e, he, rfl⟩) fun r => rfl
  rw [respond_places, given]
  omega

theorem State.Carries.setCtx (law : s.Carries a) (k : CtxId) (y : Option Context)
    (given : ∀ h, a h + (standsIn h (s.ctx k)).toNat = b h + (standsIn h y).toNat) : (s.setCtx k y).Carries b := by
  refine law.of_places rfl (fun h => ?_) (fun e he => ⟨e, he, rfl⟩) fun r => rfl
  have := setCtx_places s h k y
  have := given h
  omega

theorem State.Carries.setRing (law : s.Carries a) (r : RingId) (x : Ring) (inFlight : x.inFlight = (s.ring r).inFlight)
    (given : ∀ h, a h + (s.ring r).steers h = b h + x.steers h) : (s.setRing r x).Carries b := by
  refine law.of_places rfl (fun h => ?_) (fun e he => ⟨e, he, rfl⟩) fun q => ?_
  · have := setRing_places s h r x
    have := given h
    omega
  · rw [State.setRing_ring]
    split
    · next e => rw [e, inFlight]
    · rfl

theorem withHold_places (hold : List HoldEntry) (h : HostTag) :
    places { s with hold } h + s.inHold h = places s h + hold.countP fun e => e.req.tag == h := by
  have parts : State.inHold { s with hold } h = hold.countP (fun e => e.req.tag == h) ∧
      State.inContexts { s with hold } h = s.inContexts h ∧ State.inSteering { s with hold } h = s.inSteering h ∧
      State.inQueue { s with hold } h = s.inQueue h ∧ State.inMemory { s with hold } h = s.inMemory h ∧
      State.inReady { s with hold } h = s.inReady h := ⟨rfl, rfl, rfl, rfl, rfl, rfl⟩
  simp only [places_eq]
  omega

/-- An entry whose counted ring stays: it goes to memory, or comes back from there. -/
theorem State.Carries.setTag (law : s.Carries a) (u : HostTag) (e e' : TagEntry) (held : s.tagEntry u = some e)
    (counted : e'.counted = e.counted)
    (given : ∀ h, a h + inHand u h * e.atMemory.toNat = b h + inHand u h * e'.atMemory.toNat) :
    (s.setTag u (some e')).Carries b := by
  obtain ⟨place, hold, count⟩ := law
  refine ⟨fun h => ?_, fun x hx => ?_, fun r => ?_⟩
  · have moved := setTag_places s h u (some e')
    have := given h
    have := place h
    rw [State.setTag_tagEntry]
    unfold State.inMemory at moved
    by_cases own : h = u
    · subst own
      simp only [inHand, if_true, held, Option.any_some, Option.isSome_some] at *
      omega
    · simp only [inHand, Ne.symm own, own, if_false] at *
      omega
  · have old := hold x hx
    rw [State.setTag_tagEntry]
    split
    · next own =>
      rw [own, held] at old
      simpa [counted] using old
    · exact old
  · have moved := setTag_countedFor s r u (some e')
    have same : countsFor r (some e') = countsFor r (s.tagEntry u) := by simp [countsFor, held, counted]
    rw [same] at moved
    rw [State.setTag_ring, count r]
    omega

/-! ### The count of a ring (R33, R57) -/

/-- A request in hand stands nowhere, so in the hold queue neither. -/
theorem State.Carries.not_held (law : s.Carries (inHand u)) : ∀ e ∈ s.hold, e.req.tag ≠ u := by
  intro e he own
  have := law.place_le u
  have held : 0 < s.inHold u := List.countP_pos_iff.2 ⟨e, he, by simpa using own⟩
  simp only [places_eq, inHand, if_true] at this
  omega

/-- A request in hand that no ring counts is counted for a ring (R57). -/
theorem State.Carries.countWrite {u : HostTag} (law : s.Carries (inHand u)) (r : RingId)
    (uncounted : (s.tagEntry u).bind (·.counted) = none) : (s.countWrite r u).Carries (inHand u) := by
  have fresh := law.not_held
  obtain ⟨e, held⟩ := law.entry (h := u) (by simp [inHand])
  simp only [held, Option.bind_some] at uncounted
  obtain ⟨place, hold, count⟩ := law
  simp only [State.countWrite, held, State.modRing_eq]
  refine ⟨fun h => ?_, fun x hx => ?_, fun q => ?_⟩
  · have ring := setRing_places s h r { s.ring r with inFlight := (s.ring r).inFlight + 1 }
    have moved := setTag_places (s.setRing r { s.ring r with inFlight := (s.ring r).inFlight + 1 }) h u
      (some { e with counted := some r })
    have := place h
    have steers : ({ s.ring r with inFlight := (s.ring r).inFlight + 1 } : Ring).steers h = (s.ring r).steers h := rfl
    rw [State.setTag_tagEntry]
    unfold State.inMemory at moved
    by_cases own : h = u
    · subst own
      simp only [if_true, State.setRing_tagEntry, held, Option.any_some, Option.isSome_some] at *
      omega
    · simp only [own, if_false, State.setRing_tagEntry] at *
      omega
  · rw [State.setTag_tagEntry, if_neg (fresh x hx)]
    exact hold x hx
  · have moved := setTag_countedFor (s.setRing r { s.ring r with inFlight := (s.ring r).inFlight + 1 }) q u
      (some { e with counted := some r })
    have before : countedFor (s.setRing r { s.ring r with inFlight := (s.ring r).inFlight + 1 }) q = countedFor s q := rfl
    have none : countsFor q (some e) = false := by simp [countsFor, uncounted]
    rw [State.setRing_tagEntry, held, none, before] at moved
    rw [State.setTag_ring, State.setRing_ring]
    have := count q
    by_cases own : q = r
    · subst own
      simp [countsFor] at moved ⊢
      omega
    · simp [countsFor, own, beq_eq_false_iff_ne.2 (Ne.symm own)] at moved ⊢
      omega

theorem countWrite_setCtx (s : State) (k : CtxId) (y : Option Context) (r : RingId) (u : HostTag) :
    (s.setCtx k y).countWrite r u = (s.countWrite r u).setCtx k y := by
  unfold State.countWrite
  rw [State.setCtx_tagEntry]
  split <;> rfl

/-- A request in hand that gets a place leaves no request in hand. -/
theorem Placed.traffic {s u : State} {q : HostRequest} (h : Placed s q u) (law : s.Carries (inHand q.tag))
    (uncounted : (s.tagEntry q.tag).bind (·.counted) = none) : TrafficLaw u := by
  refine (trafficLaw_iff u).2 ?_
  cases h with
  | answered st data => exact law.respond _ _ _ fun h => (Nat.zero_add _).symm
  | decided src => exact law.decide _ fun h => (Nat.zero_add _).symm
  | counted src r => exact (law.countWrite r uncounted).decide _ fun h => (Nat.zero_add _).symm
  | steered r cell =>
    refine law.setRing r _ rfl fun h => ?_
    simp [Ring.steers, inHand, List.countP_append, List.countP_singleton]
    omega
  | context k r free active =>
    rw [countWrite_setCtx]
    have kept : (s.countWrite r q.tag).ctx k = none := by
      rw [countWrite_eq]
      exact free
    refine (law.countWrite r uncounted).setCtx k _ fun h => ?_
    rw [kept, standsIn_holds h (by simp [CtxPhase.holds]), toNat_beq_tag]
    exact (Nat.zero_add _).symm

/-- A read that is no longer steered goes on. -/
theorem Passed.traffic {s u : State} {q : HostRequest} (h : Passed s q u) (law : s.Carries (inHand q.tag)) :
    TrafficLaw u := by
  refine (trafficLaw_iff u).2 ?_
  cases h with
  | answered st data => exact law.respond _ _ _ fun h => (Nat.zero_add _).symm
  | decided src => exact law.decide _ fun h => (Nat.zero_add _).symm

/-- A request that has just been taken is in hand, and no ring counts it (R157). -/
theorem enrol_carries (law : TrafficLaw s) (q : HostRequest) (free : s.tagEntry q.tag = none) :
    (s.enrol q).Carries (inHand q.tag) ∧ ((s.enrol q).tagEntry q.tag).bind (·.counted) = none := by
  obtain ⟨place, hold, count⟩ := law
  refine ⟨⟨fun h => ?_, fun x hx => ?_, fun r => ?_⟩, by simp [State.enrol]⟩
  · have moved := setTag_places s h q.tag (some { kind := q.kind, counted := none, atMemory := false })
    have := place h
    unfold State.enrol
    rw [State.setTag_tagEntry]
    unfold State.inMemory at moved
    by_cases own : h = q.tag
    · subst own
      simp [inHand, free] at *
      omega
    · simp only [inHand, Ne.symm own, own, if_false] at *
      omega
  · unfold State.enrol
    rw [State.setTag_tagEntry]
    split
    · rfl
    · exact hold x hx
  · have moved := setTag_countedFor s r q.tag (some { kind := q.kind, counted := none, atMemory := false })
    simp only [free, countsFor] at moved
    have := count r
    unfold State.enrol
    rw [State.setTag_ring]
    simpa [this] using moved.symm

end

end Sys2Proof.Machine

/-! The traffic law under the acts that move many requests, and under every act (R57, R157). -/

namespace Sys2Proof.Machine

open Safety

/-! ### Bulk releases -/

section
variable {s : State} {a b : HostTag → Nat} (r : RingId)

/-- An event and a request for a pass move no request. -/
theorem State.Carries.raise_askPass (law : s.Carries a) (e : EventBody) : ((s.raise e).askPass).Carries a :=
  law.congr (by simp) (fun k h => by simp) (fun r => by simp) (by simp) (by simp) (by simp) (by simp) (fun r => by simp)

/-- Contexts of which some give up their host writes, and a ring that gives up some steered reads. -/
theorem State.Carries.release (law : s.Carries a) {t : State} (p : Context → Bool) (f : Context → Context) (x : Ring)
    (gone : List Steered) (ctx : ∀ k, t.ctx k = (s.ctx k).map f)
    (freed : ∀ y, p y = true → y.phase.holds ∧ (f y).phase = .forwarded)
    (kept : ∀ y, p y = false → (f y).req = y.req ∧ (f y).phase = y.phase) (rings : t.rings = (s.setRing r x).rings)
    (steered : (gone ++ x.steered).Perm (s.ring r).steered) (inFlight : x.inFlight = (s.ring r).inFlight)
    (hold : t.hold = s.hold) (decided : t.decided = s.decided) (forward : t.forward = s.forward) (tags : t.tags = s.tags)
    (ready : t.ready = s.ready) (given : ∀ h, b h = a h + ((s.writesOf p ++ gone.map fun q =>
      (⟨.ring r, q.req⟩ : Decided)).countP fun d => d.req.tag == h)) : t.Carries b := by
  have ring (q : RingId) : t.ring q = (s.setRing r x).ring q := congrArg (·.get q) rings
  refine law.of_places tags (fun h => ?_) (fun e he => ⟨e, hold ▸ he, rfl⟩) fun q => ?_
  · have contexts := release_contexts s h p f ctx freed kept
    have steering : t.inSteering h + (s.ring r).steers h = s.inSteering h + x.steers h := by
      simpa only [State.inSteering, ring] using setRing_inSteering s h r x
    have split : (s.ring r).steers h = (gone.countP fun q => q.req.tag == h) + x.steers h := by
      rw [Ring.steers, ← steered.countP_eq, List.countP_append, Ring.steers]
    have reads : ((gone.map fun q => (⟨.ring r, q.req⟩ : Decided)).countP fun d => d.req.tag == h) =
        gone.countP fun q => q.req.tag == h := by
      rw [List.countP_map]
      rfl
    have entry : t.tagEntry h = s.tagEntry h := congrArg (·.get h) tags
    have rest : t.inHold h = s.inHold h ∧ t.inQueue h = s.inQueue h ∧ t.inMemory h = s.inMemory h ∧
        t.inReady h = s.inReady h := by
      simp [State.inHold, State.inQueue, State.inMemory, State.inReady, hold, decided, forward, entry, ready]
    rw [given, List.countP_append, reads, places_eq, places_eq]
    omega
  · rw [ring, State.setRing_ring]
    split
    · next e => rw [e, inFlight]
    · rfl

theorem breakReleases_holds (y : Context) (h : y.breakReleases r = true) : y.phase.holds := by
  simp only [Context.breakReleases, Bool.and_eq_true] at h
  unfold CtxPhase.holds
  cases e : y.phase <;> simp_all

theorem afterBreak_of_released (y : Context) (h : y.breakReleases r = true) : (y.afterBreak r).phase = .forwarded := by
  simp [Context.afterBreak, h]

theorem afterBreak_of_kept (y : Context) (h : y.breakReleases r = false) :
    (y.afterBreak r).req = y.req ∧ (y.afterBreak r).phase = y.phase := by
  unfold Context.afterBreak
  rw [if_neg (by simp [h])]
  split <;> exact ⟨rfl, rfl⟩

theorem resetReleases_holds (y : Context) (h : y.resetReleases r = true) : y.phase.holds := by
  simp only [Context.resetReleases, Bool.and_eq_true] at h
  unfold CtxPhase.holds
  cases e : y.phase <;> simp_all

theorem afterReset_of_released (y : Context) (h : y.resetReleases r = true) : (y.afterReset r).phase = .forwarded := by
  simp [Context.afterReset, h]

theorem afterReset_of_kept (y : Context) (h : y.resetReleases r = false) :
    (y.afterReset r).req = y.req ∧ (y.afterReset r).phase = y.phase := by
  unfold Context.afterReset
  rw [if_neg (by simp [h])]
  split <;> exact ⟨rfl, rfl⟩

theorem becomeBroken_traffic (cause : Cause) (law : TrafficLaw s) : TrafficLaw (s.becomeBroken r cause) := by
  rw [becomeBroken_split]
  have stopped : (s.stopJournal r cause).Carries fun h => (s.brokenOff r).countP fun d => d.req.tag == h := by
    refine ((trafficLaw_iff s).1 law).release r (·.breakReleases r) (·.afterBreak r)
      { (s.ring r).broken cause with steered := (s.ring r).steered.filter fun q => !s.steerWaits r q }
      ((s.ring r).steered.filter (s.steerWaits r)) (fun k => mapVec_get ..)
      (fun y h => ⟨breakReleases_holds r y h, afterBreak_of_released r y h⟩) (afterBreak_of_kept r) rfl
      (List.filter_append_perm ..) rfl rfl rfl rfl rfl rfl fun h => (Nat.zero_add _).symm
  exact (trafficLaw_iff _).2 <| (stopped.decideAll (b := fun _ => 0) _ fun h => (Nat.zero_add _).symm).raise_askPass _

theorem resetRing_traffic (law : TrafficLaw s) : TrafficLaw (s.resetRing r) := by
  rw [resetRing_split]
  have abandoned : (s.abandon r).Carries fun h => (s.resetOff r).countP fun d => d.req.tag == h := by
    refine ((trafficLaw_iff s).1 law).release r (·.resetReleases r) (·.afterReset r) (s.ring r).ringReset (s.ring r).steered
      (fun k => mapVec_get ..) (fun y h => ⟨resetReleases_holds r y h, afterReset_of_released r y h⟩)
      (afterReset_of_kept r) rfl ?_ rfl rfl rfl rfl rfl rfl fun h => (Nat.zero_add _).symm
    rw [show (s.ring r).ringReset.steered = [] from rfl, List.append_nil]
  exact (trafficLaw_iff _).2 <| (abandoned.decideAll (b := fun _ => 0) _ fun h => (Nat.zero_add _).symm).raise_askPass _

theorem frontierRise_traffic (law : TrafficLaw s) : TrafficLaw (s.frontierRise r) := by
  have risen : State.Carries { s with
      contexts := mapVec (Option.map fun x : Context => if x.passedBy r (s.ring r).frontier then
        { x with phase := .forwarded } else x) s.contexts }
      fun h => (s.writesOf (·.passedBy r (s.ring r).frontier)).countP fun d => d.req.tag == h := by
    refine ((trafficLaw_iff s).1 law).release r (·.passedBy r (s.ring r).frontier) (fun x =>
      if x.passedBy r (s.ring r).frontier then { x with phase := .forwarded } else x) (s.ring r) []
      (fun k => mapVec_get ..) (fun y h => ?_) (fun y h => by simp [h]) ?_ (List.Perm.refl _) rfl rfl rfl rfl rfl rfl
      fun h => by simp
    · obtain ⟨-, await, -⟩ := (passedBy_iff ..).1 h
      simp [h, CtxPhase.holds, await]
    · rw [State.setRing_ring_eta]
  exact (trafficLaw_iff _).2 <| risen.decideAll (b := fun _ => 0) _ fun h => (Nat.zero_add _).symm

/-! ### One context -/

theorem forwardCtx_traffic (k : CtxId) (law : TrafficLaw s) : TrafficLaw (s.forwardCtx k) := by
  unfold State.forwardCtx
  split
  · exact law
  · next y held =>
    split
    · exact law
    · next at_ =>
      have handed : (s.setCtx k (some { y with phase := .forwarded, access := .none, stopped := true })).Carries
          (inHand y.req.tag) := by
        refine ((trafficLaw_iff s).1 law).setCtx k _ fun h => ?_
        rw [held, standsIn_holds h (not_or.1 at_), standsIn_gone h (.inl rfl), toNat_beq_tag]
        exact Nat.zero_add _
      exact (trafficLaw_iff _).2 <| handed.decide (b := fun _ => 0) _ fun h => (Nat.zero_add _).symm

theorem answerCtx_traffic (k : CtxId) (law : TrafficLaw s) (holds : ∀ y, s.ctx k = some y → y.phase.holds) :
    TrafficLaw (s.answerCtx k) := by
  unfold State.answerCtx
  split
  · exact law
  · next y held =>
    have handed : (s.setCtx k (some { y with phase := .answering, access := .none, image := none })).Carries
        (inHand y.req.tag) := by
      refine ((trafficLaw_iff s).1 law).setCtx k _ fun h => ?_
      rw [held, standsIn_holds h (holds y held), standsIn_gone h (.inr rfl), toNat_beq_tag]
      exact Nat.zero_add _
    exact (trafficLaw_iff _).2 <| handed.respond (b := fun _ => 0) _ _ _ fun h => (Nat.zero_add _).symm

theorem goesOn_standsIn {y z : Context} (goes : y.GoesOn z) (h : HostTag) :
    standsIn h (some z) = standsIn h (some y) := by
  rcases goes.phase with ⟨phase, -⟩ | ⟨before, after⟩
  · simp [standsIn, goes.req, phase]
  · rw [standsIn_holds h before, standsIn_holds h after, goes.req]

/-! ### The hold queue -/

theorem retryHeld_traffic (law : TrafficLaw s) : TrafficLaw (s.retryHeld r) := by
  have answers : (s.retryHeld r).ready = s.ready ++ (s.freeOrder (s.hold.filter (·.belongsTo r))).map fun e =>
      (⟨e.req.tag, .retry, []⟩ : HostResponse) := by
    simp only [State.retryHeld, Laws.foldl_respond_eq]
    rfl
  have hold := retryHeld_hold s r
  rw [retryHeld_eq, hold, answers]
  refine (trafficLaw_iff _).2 (((trafficLaw_iff s).1 law).of_places rfl (fun h => ?_)
    (fun e he => ⟨e, List.mem_of_mem_filter he, rfl⟩) fun q => rfl)
  have out : (((s.freeOrder (s.hold.filter (·.belongsTo r))).map fun e =>
      (⟨e.req.tag, .retry, []⟩ : HostResponse)).countP fun p => p.tag == h) =
      (s.hold.filter (·.belongsTo r)).countP fun e => e.req.tag == h := by
    rw [List.countP_map, (State.freeOrder_perm s _).countP_eq]
    rfl
  have split : s.inHold h = ((s.hold.filter (·.belongsTo r)).countP fun e => e.req.tag == h) +
      (s.hold.filter fun e => !e.belongsTo r).countP fun e => e.req.tag == h := by
    rw [State.inHold, ← (List.filter_append_perm (·.belongsTo r) s.hold).countP_eq, List.countP_append]
  simp only [places_eq, State.inHold, State.inReady, List.countP_append, out] at split ⊢
  simp only [State.inContexts, State.inSteering, State.inQueue, State.inMemory, State.ctx, State.ring, State.tagEntry]
  omega

/-- A request taken out of the hold queue is in hand, and no ring counts it (R74). -/
theorem leave_carries (ahead : List HoldEntry) (e : HoldEntry) (es : List HoldEntry) (at_ : s.hold = ahead ++ e :: es)
    (law : TrafficLaw s) : State.Carries { s with hold := ahead ++ es } (inHand e.req.tag) ∧
      (s.tagEntry e.req.tag).bind (·.counted) = none := by
  have uncounted := law.2.1
  refine ⟨((trafficLaw_iff s).1 law).of_places rfl (fun h => ?_) (fun x hx => ⟨x, ?_, rfl⟩) fun q => rfl,
    uncounted e (by simp [at_])⟩
  · have moved := withHold_places (s := s) (ahead ++ es) h
    simp only [State.inHold, at_, List.countP_append, List.countP_cons, beq_iff_eq, inHand] at moved ⊢
    by_cases own : e.req.tag = h <;> simp only [own, if_true, if_false] at moved ⊢ <;> omega
  · simp only [at_, List.mem_append, List.mem_cons] at hx ⊢
    tauto

end

end Sys2Proof.Machine

/-! The traffic law under every elementary act (R57, R157). -/

namespace Sys2Proof.Machine

open Safety

/-! ### One ring -/

/-- The ring steers the same host reads and counts the same writes. -/
def Ring.sameTraffic (x y : Ring) : Prop :=
  y.steered.map (·.req) = x.steered.map (·.req) ∧ y.inFlight = x.inFlight

theorem RingMove.sameTraffic {x y : Ring} (h : RingMove x y) : x.sameTraffic y := by
  cases h with
  | books y h => exact ⟨h.steered, h.inFlight⟩
  | grants line at_ more room =>
    show x.sameTraffic { x.offer line x.produce with
      nextSeq := _, produce := _, live := _, outstanding := _ }
    rw [offer_eq]
    exact ⟨rfl, rfl⟩
  | takesReport seq => rw [takeReport_eq]; exact ⟨rfl, rfl⟩
  | _ => exact ⟨rfl, rfl⟩

theorem BreakFrom.sameTraffic {s0 : State} {r : RingId} {x y : Ring} (h : BreakFrom s0 r x y) : x.sameTraffic y := by
  cases h with
  | plain n fits noMark => exact ⟨rfl, rfl⟩
  | withdrawn n fits at_ => rw [withdrawMark_eq]; exact ⟨rfl, rfl⟩

section
variable {s : State} {a : HostTag → Nat}

theorem setRing_traffic (r : RingId) (y : Ring) (law : TrafficLaw s) (same : (s.ring r).sameTraffic y) :
    TrafficLaw (s.setRing r y) := by
  obtain ⟨steered, inFlight⟩ := same
  exact (trafficLaw_iff _).2 (((trafficLaw_iff s).1 law).setRing r y inFlight fun h => by rw [steers_congr steered h])

/-! ### Steered reads -/

/-- A read of the ring that is no longer steered is in hand. -/
theorem unsteer_carries (r : RingId) (q : Steered) (held : q ∈ (s.ring r).steered) (law : TrafficLaw s) :
    (s.setRing r { s.ring r with steered := (s.ring r).steered.filter fun p => p.req.tag != q.req.tag }).Carries
      (inHand q.req.tag) := by
  have place := ((trafficLaw_iff s).1 law).place_le q.req.tag
  have one : (s.ring r).steers q.req.tag ≤ s.inSteering q.req.tag :=
    Finset.single_le_sum (f := fun r => (s.ring r).steers q.req.tag) (fun _ _ => Nat.zero_le _) (Finset.mem_univ r)
  have some : 0 < (s.ring r).steers q.req.tag := List.countP_pos_iff.2 ⟨q, held, by simp⟩
  rw [places_eq] at place
  refine ((trafficLaw_iff s).1 law).setRing r _ rfl fun h => ?_
  show _ = inHand q.req.tag h + (((s.ring r).steered.filter fun p => p.req.tag != q.req.tag).countP fun p => p.req.tag == h)
  rw [List.countP_filter]
  by_cases own : q.req.tag = h
  · subst own
    have none : ((s.ring r).steered.countP fun p => p.req.tag == q.req.tag && p.req.tag != q.req.tag) = 0 := by
      rw [List.countP_eq_zero]
      simp
    rw [none]
    simp only [inHand, if_true]
    omega
  · have same : ((s.ring r).steered.countP fun p => p.req.tag == h && p.req.tag != q.req.tag) = (s.ring r).steers h := by
      refine List.countP_congr fun p _ => ?_
      simp only [Bool.and_eq_true, beq_iff_eq, bne_iff_ne, ne_eq, and_iff_left_iff_imp]
      rintro rfl
      exact Ne.symm own
    rw [same, inHand, if_neg own]

/-! ### The memory port -/

theorem fillRoom_carries (law : s.Carries a) : s.fillRoom.Carries a := by
  unfold State.fillRoom
  split
  · next d ds waits =>
    refine law.of_places rfl (fun h => ?_) (fun e he => ⟨e, he, rfl⟩) fun r => rfl
    simp only [places_eq, State.inQueue, waits, List.countP_cons, List.countP_append, List.countP_nil]
    simp only [State.inContexts, State.inSteering, State.inHold, State.inMemory, State.inReady, State.ctx, State.ring,
      State.tagEntry]
    omega
  · split
    · exact law.congr rfl (fun _ _ => rfl) (fun _ => rfl) rfl rfl rfl rfl fun _ => rfl
    · exact law

/-- The head of the forward buffer is in hand once it has left it. -/
theorem unforward_carries (q : HostRequest) (qs : List HostRequest) (h : s.forward = q :: qs) (law : TrafficLaw s)
    (cls : ArbClass) (out : Option MemRequest) :
    State.Carries { s with forward := qs, lastClass := cls, memOut := out } (inHand q.tag) := by
  refine ((trafficLaw_iff s).1 law).of_places rfl (fun u => ?_) (fun e he => ⟨e, he, rfl⟩) fun r => rfl
  simp only [places_eq, State.inQueue, h, List.countP_cons, beq_iff_eq]
  simp only [State.inContexts, State.inSteering, State.inHold, State.inMemory, State.inReady, State.ctx, State.ring,
    State.tagEntry, inHand]
  omega

theorem issueHost_traffic (law : TrafficLaw s) : TrafficLaw s.issueHost := by
  unfold State.issueHost
  split
  · exact law
  · next q qs head =>
    have handed := unforward_carries q qs head law .host (some
      { tag := Fin.castLE (by omega) q.tag, kind := q.kind, addr := q.addr, size := q.size, data := q.data,
        enables := q.enables })
    have place := ((trafficLaw_iff s).1 law).place_le q.tag
    obtain ⟨e, entry⟩ := handed.entry (h := q.tag) (by simp [inHand])
    have held : s.tagEntry q.tag = some e := entry
    have absent : e.atMemory = false := by
      by_contra present
      rw [Bool.not_eq_false] at present
      rw [places_eq] at place
      simp [State.inMemory, held, present, State.inQueue, head] at place
      omega
    refine (trafficLaw_iff _).2 (fillRoom_carries ?_)
    simp only [entry]
    refine handed.setTag q.tag e _ entry rfl fun h => ?_
    simp [absent]

theorem hostMemoryResponse_traffic (u : HostTag) (st : MemStatus) (data : List Byte) (law : TrafficLaw s) :
    TrafficLaw (s.hostMemoryResponse u st data) := by
  unfold State.hostMemoryResponse
  split
  · exact law
  · next e held =>
    split
    · next present =>
      have handed : (s.setTag u (some { e with atMemory := false })).Carries (inHand u) :=
        ((trafficLaw_iff s).1 law).setTag u e _ held rfl fun h => by simp [present]
      have respond (st : HostStatus) (data : List Byte) :
          TrafficLaw ((s.setTag u (some { e with atMemory := false })).respond u st data) :=
        (trafficLaw_iff _).2 (handed.respond u st data fun h => (Nat.zero_add _).symm)
      simp only
      split <;> exact respond _ _
    · exact law

/-! ### The return of a response (R54, R57, R158) -/

/-- The rings after the return of a response: the count of the ring that counted it has fallen. -/
theorem afterReturn_ring_eq (s : State) (p : HostResponse) (ps : List HostResponse) (q : RingId) :
    (s.afterReturn p ps).ring q = if (s.tagEntry p.tag).bind (·.counted) = some q then
      { s.ring q with inFlight := (s.ring q).inFlight - 1 } else s.ring q := by
  unfold State.afterReturn
  cases counted : (s.tagEntry p.tag).bind (·.counted) with
  | none => exact freeCarrier_ring ..
  | some r =>
    simp only [State.modRing_eq, freeCarrier_ring, State.setRing_ring, Option.some.injEq]
    by_cases own : q = r
    · subst own
      simp only [if_true]
      rfl
    · rw [if_neg own, if_neg (Ne.symm own)]
      rfl

theorem afterReturn_tagEntry (s : State) (p : HostResponse) (ps : List HostResponse) (h : HostTag) :
    (s.afterReturn p ps).tagEntry h = if h = p.tag then none else s.tagEntry h := by
  unfold State.afterReturn
  simp only
  split <;> rw [freeCarrier_tagEntry] <;> exact State.setTag_tagEntry ..

theorem afterReturn_countedFor (s : State) (p : HostResponse) (ps : List HostResponse) (r : RingId) :
    countedFor (s.afterReturn p ps) r = countedFor (s.setTag p.tag none) r := by
  simp only [countedFor_eq, afterReturn_tagEntry, State.setTag_tagEntry]

theorem afterReturn_traffic (p : HostResponse) (ps : List HostResponse) (head : s.ready = p :: ps) (law : TrafficLaw s) :
    TrafficLaw (s.afterReturn p ps) := by
  have place := ((trafficLaw_iff s).1 law).place_le p.tag
  have ready (h : HostTag) : s.inReady h = ps.countP (fun p => p.tag == h) + inHand p.tag h := by
    simp [State.inReady, head, List.countP_cons, inHand]
  rw [places_eq, ready] at place
  simp only [inHand, if_true] at place
  obtain ⟨e, held⟩ := ((trafficLaw_iff s).1 law).entry (h := p.tag)
    (by rw [places_eq, ready]; simp only [inHand, if_true]; omega)
  obtain ⟨places, hold, count⟩ := law
  refine ⟨fun h => ?_, fun x hx => ?_, fun r => ?_⟩
  · have contexts : (s.afterReturn p ps).inContexts h = s.inContexts h := by
      have each (k : CtxId) (other : p.tag ≠ h) : standsIn h ((s.afterReturn p ps).ctx k) = standsIn h (s.ctx k) := by
        rw [afterReturn_ctx]
        split
        · next carries =>
          cases at_ : s.ctx k with
          | none => rfl
          | some y =>
            simp only [at_, carries?, beq_iff_eq] at carries
            simp [standsIn, carries, beq_eq_false_iff_ne.2 other]
        · rfl
      by_cases own : p.tag = h
      · subst own
        have none : s.inContexts p.tag = 0 := by omega
        rw [none]
        refine Finset.sum_eq_zero fun k _ => ?_
        have zero := (Finset.sum_eq_zero_iff.1 none) k (Finset.mem_univ k)
        rw [afterReturn_ctx]
        split
        · rfl
        · exact zero
      · exact Finset.sum_congr rfl fun k _ => by rw [each k own]
    have steering : (s.afterReturn p ps).inSteering h = s.inSteering h := by
      refine Finset.sum_congr rfl fun r _ => ?_
      rw [afterReturn_ring_eq]
      split <;> rfl
    have rest : (s.afterReturn p ps).inHold h = s.inHold h ∧ (s.afterReturn p ps).inQueue h = s.inQueue h ∧
        (s.afterReturn p ps).inReady h = ps.countP fun p => p.tag == h := by
      rw [afterReturn_eq]
      exact ⟨rfl, rfl, rfl⟩
    have total := places h
    rw [places_eq, ready] at total
    rw [places_eq, contexts, steering, rest.1, rest.2.1, rest.2.2]
    simp only [State.inMemory, afterReturn_tagEntry, inHand] at total place ⊢
    by_cases own : h = p.tag
    · subst own
      simp only [held, if_true, Option.any_none, Option.isSome_some, Option.isSome_none, Bool.toNat_false] at total place ⊢
      simp only [Bool.false_eq_true, if_false]
      omega
    · simp only [own, Ne.symm own, if_false] at total ⊢
      omega
  · rw [afterReturn_tagEntry]
    split
    · rfl
    · rw [afterReturn_eq] at hx
      exact hold x hx
  · have moved := setTag_countedFor s r p.tag none
    rw [afterReturn_ring_eq, afterReturn_countedFor, held]
    have := count r
    rw [held] at moved
    by_cases own : e.counted = some r
    · simp [countsFor, own] at moved ⊢
      omega
    · have uncounted : countsFor r (some e) = false := beq_eq_false_iff_ne.2 own
      rw [uncounted] at moved
      simp [countsFor, own] at moved ⊢
      omega

/-! ### The device reset -/

theorem idle_traffic (hold : s.hold = []) (ctx : ∀ k, s.ctx k = none) (steered : ∀ r, (s.ring r).steered = [])
    (decided : s.decided = []) (forward : s.forward = []) (tags : ∀ h, s.tagEntry h = none) (ready : s.ready = [])
    (inFlight : ∀ r, (s.ring r).inFlight = 0) : TrafficLaw s := by
  refine ⟨fun h => ?_, by simp [hold], fun r => ?_⟩
  · simp [places_eq, State.inHold, State.inContexts, State.inSteering, State.inQueue, State.inMemory, State.inReady, hold,
      ctx, steered, decided, forward, tags, ready, standsIn, Ring.steers]
  · rw [inFlight, countedFor_eq]
    simp [tags, countsFor]

theorem inDeviceReset_tagEntry (s : State) (h : HostTag) : s.inDeviceReset.tagEntry h = none := by
  fin_cases h <;> rfl

/-! ### Every act -/

theorem Act.traffic {c : Instr} {s0 s t : State} (h : Act c s0 s t) (law : TrafficLaw s) : TrafficLaw t := by
  have carries := (trafficLaw_iff s).1 law
  have still {t : State} (hold : t.hold = s.hold) (contexts : t.contexts = s.contexts) (rings : t.rings = s.rings)
      (decided : t.decided = s.decided) (forward : t.forward = s.forward) (tags : t.tags = s.tags)
      (ready : t.ready = s.ready) : TrafficLaw t := by
    have ctx (k : CtxId) : t.ctx k = s.ctx k := congrArg (·.get k) contexts
    have ring (r : RingId) : t.ring r = s.ring r := congrArg (·.get r) rings
    exact (trafficLaw_iff t).2 (carries.congr hold (fun k h => by rw [ctx]) (fun r => by rw [ring]) decided forward tags
      ready fun r => by rw [ring])
  cases h with
  | quiet t h => exact still h.hold h.contexts h.rings h.decided h.forward h.tags h.ready
  | raises b => exact still (by simp) (by simp) (by simp) (by simp) (by simp) (by simp) (by simp)
  | time n =>
    exact (trafficLaw_iff _).2 (carries.congr rfl (fun _ _ => rfl) (fun r => by rw [State.passTime_ring]) rfl rfl rfl rfl
      fun r => by rw [State.passTime_ring])
  | ring r y h => exact setRing_traffic r y law h.sameTraffic
  | opens r mode run first from_ cells score held => exact setRing_traffic r _ law ⟨rfl, rfl⟩
  | rollsBack r from_ held => exact setRing_traffic r _ law ⟨rfl, rfl⟩
  | configures r cfg by_ at_ cells => exact setRing_traffic r _ law ⟨rfl, rfl⟩
  | setsInterval r code by_ => exact setRing_traffic r _ law ⟨rfl, rfl⟩
  | breaks r x cause may h => exact becomeBroken_traffic r cause (setRing_traffic r x law h.sameTraffic)
  | resets r => exact resetRing_traffic r law
  | forwards k => exact forwardCtx_traffic k law
  | answersCtx k h => exact answerCtx_traffic k law h
  | context k y z held h =>
    exact (trafficLaw_iff _).2 (carries.setCtx k _ fun u => by rw [held, goesOn_standsIn h])
  | rises r by_ => exact frontierRise_traffic r law
  | retries r => exact retryHeld_traffic r law
  | arrives q u free h =>
    obtain ⟨handed, uncounted⟩ := enrol_carries law q free
    exact h.traffic handed uncounted
  | arrivesHeld e free room h =>
    obtain ⟨handed, uncounted⟩ := enrol_carries law e.req free
    obtain ⟨place, old, count⟩ := handed
    refine ⟨fun u => ?_, fun x hx => ?_, count⟩
    · have moved := withHold_places (s := s.enrol e.req) (s.hold ++ [e]) u
      rw [List.countP_append, List.countP_singleton] at moved
      simp only [beq_iff_eq] at moved
      rw [show (s.enrol e.req).inHold u = s.hold.countP fun e => e.req.tag == u from rfl, Nat.add_comm (List.countP _ _),
        ← Nat.add_assoc] at moved
      exact (Nat.add_right_cancel moved).trans (place u)
    · rcases List.mem_append.1 hx with hx | hx
      · exact old x hx
      · obtain rfl := List.mem_singleton.1 hx
        exact uncounted
  | leaves ahead e es u at_ h =>
    obtain ⟨handed, uncounted⟩ := leave_carries ahead e es at_ law
    exact h.traffic handed uncounted
  | stays ahead e e' es at_ req h =>
    refine (trafficLaw_iff _).2 (carries.of_places rfl (fun u => ?_) (fun x hx => ?_) fun r => rfl)
    · have moved := withHold_places (s := s) (ahead ++ e' :: es) u
      simp only [State.inHold, at_, List.countP_append, List.countP_cons, req] at moved ⊢
      omega
    · simp only [at_, List.mem_append, List.mem_cons] at hx ⊢
      rcases hx with hx | rfl | hx
      · exact ⟨x, .inl hx, rfl⟩
      · exact ⟨e, .inr (.inl rfl), req.symm⟩
      · exact ⟨x, .inr (.inr hx), rfl⟩
  | steerEnds r q u held h => exact h.traffic (unsteer_carries r q held law)
  | returns p ps h => exact afterReturn_traffic p ps h law
  | issues => exact issueHost_traffic law
  | memory t st data => exact hostMemoryResponse_traffic t st data law
  | device by_ =>
    exact idle_traffic rfl (inDeviceReset_ctx s) (fun r => by rw [inDeviceReset_ring]; rfl) rfl rfl
      (inDeviceReset_tagEntry s) rfl fun r => by rw [inDeviceReset_ring]; rfl
  | loads | takes | answers | takesFrame | endsFrame | collects | reads | mode | region =>
    exact still rfl rfl rfl rfl rfl rfl rfl

end

end Sys2Proof.Machine

/-! Contexts and held entries that belong to a ring, under every elementary act (R41, R57, R58, R61, R82). -/

namespace Sys2Proof.Machine

open Safety

/-! ### The law by its parts -/

/-- The context's write is outstanding and counted, for the context's own ring while it has one (R57). -/
def State.countsContext (s : State) (x : Context) : Prop :=
  ∃ e q, s.tagEntry x.req.tag = some e ∧ e.counted = some q ∧ ∀ r, x.ring = some r → r = q

/-- No context belongs to a ring in this phase (R58, R61). -/
def Phase.free (p : Phase) : Prop :=
  p = .closed ∨ p.state = .opening ∨ p = .rollingRestore ∨ p = .rollingMark ∨ p = .checkpointingMark

/-- No held entry belongs to a ring in this phase (R82). -/
def Phase.unheld (p : Phase) : Prop := p.state = .opening ∨ p.state = .rolling

/-- Contexts hold different tags. -/
def State.apart (s : State) : Prop :=
  ∀ c d x y, s.ctx c = some x → s.ctx d = some y → x.req.tag = y.req.tag → c = d

theorem belongingLaw_iff (s : State) : BelongingLaw s ↔
    (∀ c x, s.ctx c = some x → s.countsContext x) ∧ s.apart ∧
    (∀ c x r, s.ctx c = some x → x.ring = some r → ¬(s.ring r).phase.free) ∧ ∀ e ∈ s.hold, s.mayHold e := by
  have free (p : Phase) : ¬p.free ↔
      p ≠ .closed ∧ p.state ≠ .opening ∧ p ≠ .rollingRestore ∧ p ≠ .rollingMark ∧ p ≠ .checkpointingMark := by
    simp [Phase.free]
  have held : (∀ e ∈ s.hold, s.mayHold e) ↔ (∀ e ∈ s.hold, e.reason ≠ .line → e.req.kind = .write) ∧
      ∀ e ∈ s.hold, ∀ r, e.belongsTo r = true → (s.ring r).phase.state ≠ .opening ∧ (s.ring r).phase.state ≠ .rolling := by
    simp only [State.mayHold, HoldEntry.belongsTo, Bool.and_eq_true, bne_iff_ne, beq_iff_eq, and_imp]
    exact ⟨fun h => ⟨fun e he why => (h e he why).1, fun e he r why own => (h e he why).2 r own⟩,
      fun h e he why => ⟨h.1 e he why, fun r own => h.2 e he r why own⟩⟩
  rw [held]
  simp only [free]
  rfl

theorem mayHold_congr {s t : State} {e : HoldEntry} (phase : ∀ r, (t.ring r).phase = (s.ring r).phase)
    (h : s.mayHold e) : t.mayHold e := by
  unfold State.mayHold at h ⊢
  simpa only [phase] using h

theorem countsContext_congr {s t : State} {x y : Context} (req : y.req = x.req)
    (ring : ∀ r, y.ring = some r → x.ring = some r) (h : s.countsContext x) (tags : ∀ u, t.tagEntry u = s.tagEntry u) :
    t.countsContext y := by
  obtain ⟨e, q, held, counted, own⟩ := h
  exact ⟨e, q, by rw [req, tags, held], counted, fun r h => own r (ring r h)⟩

/-! ### Acts that keep the tags, with contexts that keep their requests -/

/-- Every context keeps its request, and no context comes to belong to another ring. -/
def State.KeepsContexts (s t : State) : Prop :=
  ∀ k y, t.ctx k = some y → ∃ x, s.ctx k = some x ∧ y.req = x.req ∧ ∀ r, y.ring = some r → x.ring = some r

theorem keepsContexts_of_eq {s t : State} (h : ∀ k, t.ctx k = s.ctx k) : s.KeepsContexts t :=
  fun k y held => ⟨y, (h k).symm.trans held, rfl, fun _ => id⟩

theorem keepsContexts_of_map {s t : State} (f : Context → Context) (ctx : ∀ k, t.ctx k = (s.ctx k).map f)
    (req : ∀ y, (f y).req = y.req) (ring : ∀ y r, (f y).ring = some r → y.ring = some r) : s.KeepsContexts t := by
  intro k y held
  rw [ctx] at held
  obtain ⟨x, before, rfl⟩ := Option.map_eq_some_iff.1 held
  exact ⟨x, before, req x, ring x⟩

theorem apart_congr {s t : State} (apart : s.apart) (contexts : s.KeepsContexts t) : t.apart := by
  intro c d x y hx hy tag
  obtain ⟨x', hx', rx, -⟩ := contexts c x hx
  obtain ⟨y', hy', ry, -⟩ := contexts d y hy
  exact apart c d x' y' hx' hy' (by rw [← rx, ← ry, tag])

theorem belongingLaw_congr {s t : State} (law : BelongingLaw s) (contexts : s.KeepsContexts t)
    (tags : ∀ u, t.tagEntry u = s.tagEntry u)
    (free : ∀ k x r, t.ctx k = some x → x.ring = some r → (t.ring r).phase.free → (s.ring r).phase.free)
    (hold : ∀ e ∈ t.hold, s.mayHold e → t.mayHold e) (sub : t.hold ⊆ s.hold) : BelongingLaw t := by
  obtain ⟨counted, apart, belongs, held⟩ := (belongingLaw_iff s).1 law
  refine (belongingLaw_iff t).2 ⟨fun k y at_ => ?_, apart_congr apart contexts, fun k y r at_ own => ?_,
    fun e he => hold e he (held e (sub he))⟩
  · obtain ⟨x, at_', req, ring⟩ := contexts k y at_
    exact countsContext_congr req ring (counted k x at_') tags
  · obtain ⟨x, at_', req, ring⟩ := contexts k y at_
    exact fun h => belongs k x r at_' (ring r own) (free k y r at_ own h)

/-- An act that changes no ring's phase. -/
theorem belongingLaw_still {s t : State} (law : BelongingLaw s) (contexts : s.KeepsContexts t)
    (tags : ∀ u, t.tagEntry u = s.tagEntry u) (phase : ∀ r, (t.ring r).phase = (s.ring r).phase)
    (sub : t.hold ⊆ s.hold) : BelongingLaw t :=
  belongingLaw_congr law contexts tags (fun _ _ r _ _ h => phase r ▸ h) (fun _ _ h => mayHold_congr phase h) sub

/-! ### One ring -/

/-- A ring controller takes up a phase without contexts only with its count at 0, or from such a phase (R58). -/
theorem RingMove.free {x y : Ring} (h : RingMove x y) (free : y.phase.free) : x.phase.free ∨ x.inFlight = 0 := by
  have at_ {p : Phase} (at_ : x.phase = p) (free : p.free) : x.phase.free := at_ ▸ free
  cases h with
  | books y h => exact .inl (h.phase ▸ free)
  | grants line at_ more room => exact .inl (offer_phase x line x.produce ▸ free)
  | takesReport seq => rw [takeReport_eq] at free; exact .inl free
  | scores | stepsBack | finds | walks | disarmsHigh | disarmsFull => exact .inl free
  | marksCheckpoint reason released at_ more idle => exact .inr idle
  | restores cell seq at_ idle => exact .inr idle
  | closes at_ idle => exact .inr idle
  | marksRollback released from_ more => exact .inl (at_ from_ (by simp [Phase.free]))
  | marksFresh from_ => exact .inl (at_ from_ (by simp [Phase.free, Phase.state]))
  | searches from_ => exact .inl (at_ from_ (by simp [Phase.free, Phase.state]))
  | failsOpen n from_ fits => exact .inl (.inr (.inl from_))
  | startsCheckpoint | startsClose => simp [Phase.free, Phase.state] at free
  | recovers | completesCheckpoint | completesRollback | completesFresh =>
    simp [Phase.free, Phase.state, Ring.activated] at free

/-- A ring controller by itself does not enter OPENING or ROLLING. -/
theorem RingMove.unheld {x y : Ring} (h : RingMove x y) (unheld : y.phase.unheld) : x.phase.unheld := by
  have at_ {p : Phase} (at_ : x.phase = p) (unheld : p.unheld) : x.phase.unheld := at_ ▸ unheld
  cases h with
  | books y h => exact h.phase ▸ unheld
  | grants line at_ more room => exact offer_phase x line x.produce ▸ unheld
  | takesReport seq => rw [takeReport_eq] at unheld; exact unheld
  | scores | stepsBack | finds | walks | disarmsHigh | disarmsFull => exact unheld
  | marksRollback released from_ more => exact at_ from_ (by simp [Phase.unheld, Phase.state])
  | marksFresh from_ => exact at_ from_ (by simp [Phase.unheld, Phase.state])
  | restores cell seq from_ idle => exact at_ from_ (by simp [Phase.unheld, Phase.state])
  | searches from_ => exact at_ from_ (by simp [Phase.unheld, Phase.state])
  | startsCheckpoint | startsClose | marksCheckpoint | failsOpen | closes => simp [Phase.unheld, Phase.state] at unheld
  | recovers | completesCheckpoint | completesRollback | completesFresh =>
    simp [Phase.unheld, Phase.state, Ring.activated] at unheld

/-- A ring to which a context belongs counts its write (R57). -/
theorem inFlight_ne_zero {s : State} (traffic : TrafficLaw s) (law : BelongingLaw s) (k : CtxId) (x : Context) (r : RingId)
    (held : s.ctx k = some x) (own : x.ring = some r) : (s.ring r).inFlight ≠ 0 := by
  obtain ⟨-, -, count⟩ := traffic
  obtain ⟨e, q, entry, counted, same⟩ := law.1 k x held
  obtain rfl := same r own
  rw [count, countedFor_eq]
  intro zero
  have := (Finset.sum_eq_zero_iff.1 zero) x.req.tag (Finset.mem_univ _)
  simp [entry, countsFor, counted] at this

/-- One ring changes, and nothing else. -/
theorem setRing_belongs {s : State} (r : RingId) (y : Ring) (law : BelongingLaw s)
    (free : y.phase.free → (∃ k x, s.ctx k = some x ∧ x.ring = some r) → (s.ring r).phase.free)
    (unheld : ∀ e ∈ s.hold, e.belongsTo r = true → y.phase.unheld → (s.ring r).phase.unheld) :
    BelongingLaw (s.setRing r y) := by
  refine belongingLaw_congr law (keepsContexts_of_eq fun _ => rfl) (fun _ => rfl) (fun k x q at_ own h => ?_)
    (fun e he h => ?_) (List.Subset.refl _)
  · rw [State.setRing_ring] at h
    split at h
    · next same => subst same; exact free h ⟨k, x, at_, own⟩
    · exact h
  · refine fun why => ⟨(h why).1, fun q own => ?_⟩
    rw [State.setRing_ring]
    split
    · next same =>
      subst same
      have still := (h why).2 q own
      by_contra no
      have old := unheld e he (by simp [HoldEntry.belongsTo, why, own]) (by unfold Phase.unheld; tauto)
      unfold Phase.unheld at old
      tauto
    · exact (h why).2 q own

/-! ### Requests that get a place -/

/-- The state of a request in hand: no context has its tag. -/
theorem not_carried {s : State} {u : HostTag} (law : BelongingLaw s) (uncounted : (s.tagEntry u).bind (·.counted) = none) :
    ∀ k x, s.ctx k = some x → x.req.tag ≠ u := by
  intro k x held own
  obtain ⟨e, q, entry, counted, -⟩ := law.1 k x held
  rw [← own, entry] at uncounted
  simp [counted] at uncounted

/-- The count of a write leaves the law, if no context has its tag. -/
theorem countWrite_belongs {s : State} (r : RingId) (u : HostTag) (law : BelongingLaw s)
    (other : ∀ k x, s.ctx k = some x → x.req.tag ≠ u) : BelongingLaw (s.countWrite r u) := by
  have ctx (k : CtxId) : (s.countWrite r u).ctx k = s.ctx k := by rw [countWrite_eq]; rfl
  have phase (q : RingId) : ((s.countWrite r u).ring q).phase = (s.ring q).phase := by
    obtain ⟨n, h⟩ := countWrite_ring s q r u
    rw [h]
  have hold : (s.countWrite r u).hold = s.hold := by rw [countWrite_eq]
  have entry (v : HostTag) (ne : v ≠ u) : (s.countWrite r u).tagEntry v = s.tagEntry v := by
    unfold State.countWrite
    split
    · rfl
    · exact State.setTag_tagEntry_ne _ _ _ _ ne
  obtain ⟨counted, apart, belongs, held⟩ := (belongingLaw_iff s).1 law
  refine (belongingLaw_iff _).2 ⟨fun k x at_ => ?_, apart_congr apart (keepsContexts_of_eq ctx), fun k x q at_ own => ?_,
    fun e he => ?_⟩
  · rw [ctx] at at_
    obtain ⟨e, q, at_', counted, own⟩ := counted k x at_
    exact ⟨e, q, by rw [entry _ (other k x at_), at_'], counted, own⟩
  · rw [ctx] at at_
    rw [phase]
    exact belongs k x q at_ own
  · exact mayHold_congr phase (held e (hold ▸ he))

/-- A request in hand that gets a place keeps the law (R41, R57). -/
theorem Placed.belongs {s u : State} {q : HostRequest} (h : Placed s q u) (law : BelongingLaw s)
    (some_ : (s.tagEntry q.tag).isSome = true) (uncounted : (s.tagEntry q.tag).bind (·.counted) = none) :
    BelongingLaw u := by
  have other := not_carried law uncounted
  cases h with
  | answered st data =>
    exact belongingLaw_still law (keepsContexts_of_eq fun _ => rfl) (fun _ => rfl) (fun _ => rfl) (List.Subset.refl _)
  | decided src =>
    exact belongingLaw_still law (keepsContexts_of_eq fun k => State.decide_ctx ..) (fun _ => State.decide_tagEntry ..)
      (fun r => by rw [State.decide_ring]) (by rw [State.decide_hold]; exact List.Subset.refl _)
  | counted src r =>
    exact belongingLaw_still (countWrite_belongs r q.tag law other) (keepsContexts_of_eq fun k => State.decide_ctx ..)
      (fun _ => State.decide_tagEntry ..) (fun r => by rw [State.decide_ring])
      (by rw [State.decide_hold]; exact List.Subset.refl _)
  | steered r cell =>
    refine belongingLaw_still law (keepsContexts_of_eq fun _ => rfl) (fun _ => rfl) (fun p => ?_) (List.Subset.refl _)
    rw [State.setRing_ring]
    split
    · next e => rw [e]
    · rfl
  | context k r free active =>
    obtain ⟨e, entry⟩ := Option.isSome_iff_exists.1 some_
    have same : (s.countWrite r q.tag).tagEntry q.tag = some { e with counted := some r } := by
      unfold State.countWrite
      simp only [entry]
      exact State.setTag_tagEntry_self ..
    have ctx (j : CtxId) : (s.countWrite r q.tag).ctx j = s.ctx j := by rw [countWrite_eq]; rfl
    have phase : ((s.countWrite r q.tag).ring r).phase = .active := by
      obtain ⟨n, h⟩ := countWrite_ring s r r q.tag
      rw [h]
      exact active
    rw [countWrite_setCtx]
    obtain ⟨counted, apart, belongs, held⟩ := (belongingLaw_iff _).1 (countWrite_belongs r q.tag law other)
    have cases {j : CtxId} {x : Context} (h : ((s.countWrite r q.tag).setCtx k (some
        { req := q, ring := some r, phase := .preRead, image := none, reserved := none, retryUsed := false,
          access := .waiting, stopped := false })).ctx j = some x) :
        (j = k ∧ x.req = q ∧ x.ring = some r) ∨ (j ≠ k ∧ (s.countWrite r q.tag).ctx j = some x) := by
      rw [State.setCtx_ctx] at h
      split at h
      · next e => obtain rfl := Option.some.inj h; exact .inl ⟨e, rfl, rfl⟩
      · next e => exact .inr ⟨e, h⟩
    refine (belongingLaw_iff _).2 ⟨fun j x at_ => ?_, fun c d x y hx hy tag => ?_, fun j x p at_ own => ?_, held⟩
    · rcases cases at_ with ⟨-, req, ring⟩ | ⟨-, at_⟩
      · exact ⟨_, r, by rw [req]; exact same, rfl, fun p hp => (Option.some.inj (ring.symm.trans hp)).symm⟩
      · exact counted j x at_
    · rcases cases hx with ⟨ec, qx, -⟩ | ⟨-, hx⟩ <;> rcases cases hy with ⟨ed, qy, -⟩ | ⟨-, hy⟩
      · rw [ec, ed]
      · exact absurd (tag.symm.trans (congrArg HostRequest.tag qx)) (other d y ((ctx d).symm.trans hy))
      · exact absurd (tag.trans (congrArg HostRequest.tag qy)) (other c x ((ctx c).symm.trans hx))
      · exact apart c d x y hx hy tag
    · rcases cases at_ with ⟨-, -, ring⟩ | ⟨-, at_⟩
      · obtain rfl := Option.some.inj (ring.symm.trans own)
        show ¬((s.countWrite r q.tag).ring r).phase.free
        rw [phase]
        simp [Phase.free, Phase.state]
      · exact belongs j x p at_ own

/-- The tag of a request that has just been taken is in no context. -/
theorem enrol_belongs {s : State} (q : HostRequest) (free : s.tagEntry q.tag = none) (law : BelongingLaw s) :
    BelongingLaw (s.enrol q) := by
  obtain ⟨counted, apart, belongs, held⟩ := (belongingLaw_iff s).1 law
  refine (belongingLaw_iff _).2 ⟨fun k x at_ => ?_, apart, belongs, held⟩
  obtain ⟨e, r, entry, rest⟩ := counted k x at_
  refine ⟨e, r, ?_, rest⟩
  have ne : x.req.tag ≠ q.tag := by
    intro same
    simp [same, free] at entry
  exact (State.setTag_tagEntry_ne _ _ _ _ ne).trans entry

end Sys2Proof.Machine

/-! Each request in one place, the counts exact, and the contexts and held entries with their rings, at every step. -/

namespace Sys2Proof.Machine

open Safety

section
variable {s : State}

theorem forwardCtx_keepsContexts (s : State) (k : CtxId) : s.KeepsContexts (s.forwardCtx k) := by
  intro j y held
  rcases forwardCtx_ctx s k j with same | ⟨x, before, -, -, after⟩
  · exact ⟨y, same.symm.trans held, rfl, fun _ => id⟩
  · obtain rfl := Option.some.inj (after.symm.trans held)
    exact ⟨x, before, rfl, fun _ => id⟩

theorem answerCtx_keepsContexts (s : State) (k : CtxId) : s.KeepsContexts (s.answerCtx k) := by
  intro j y held
  rcases answerCtx_ctx s k j with same | ⟨x, before, -, after⟩
  · exact ⟨y, same.symm.trans held, rfl, fun _ => id⟩
  · obtain rfl := Option.some.inj (after.symm.trans held)
    exact ⟨x, before, rfl, fun _ => id⟩

theorem afterBreak_req (y : Context) (r : RingId) : (y.afterBreak r).req = y.req := by
  unfold Context.afterBreak
  split
  · rfl
  · split <;> rfl

theorem afterReset_req (y : Context) (r : RingId) : (y.afterReset r).req = y.req := by
  unfold Context.afterReset
  split
  · rfl
  · split <;> rfl

/-- A context detached by a ring reset belongs to no ring; every other one stays where it is (R61). -/
theorem afterReset_ring (y : Context) (r q : RingId) (h : (y.afterReset r).ring = some q) : y.ring = some q ∧ q ≠ r := by
  unfold Context.afterReset at h
  split at h
  · simp at h
  · split at h
    · simp at h
    · next other => exact ⟨h, fun e => other (e ▸ h)⟩

/-- The move to BROKEN: its ring may have contexts and held entries, and each context keeps its ring (R59, R143). -/
theorem becomeBroken_belongs (r : RingId) (cause : Cause) (law : BelongingLaw s) :
    BelongingLaw (s.becomeBroken r cause) := by
  have hold : (s.becomeBroken r cause).hold = s.hold := by rw [becomeBroken_eq]
  have other (q : RingId) (ne : q ≠ r) : (s.becomeBroken r cause).ring q = s.ring q :=
    onlyRing_ring _ q r (Laws.becomeBroken_only r s cause) ne
  refine belongingLaw_congr law (keepsContexts_of_map _ (becomeBroken_ctx s · r cause) (afterBreak_req · r)
    (fun y q h => afterBreak_ring y r ▸ h)) (fun u => by rw [becomeBroken_eq]; rfl) (fun k x q _ _ h => ?_)
    (fun e _ h => ?_) (by rw [hold]; exact List.Subset.refl _)
  · by_cases e : q = r
    · subst e
      rw [becomeBroken_phase] at h
      simp [Phase.free, Phase.state] at h
    · rwa [other q e] at h
  · refine fun why => ⟨(h why).1, fun q own => ?_⟩
    by_cases e : q = r
    · subst e
      rw [becomeBroken_phase]
      simp [Phase.state]
    · rw [other q e]
      exact (h why).2 q own

/-- A ring reset leaves its ring without contexts (R61). -/
theorem resetRing_belongs (r : RingId) (law : BelongingLaw s) : BelongingLaw (s.resetRing r) := by
  have hold : (s.resetRing r).hold = s.hold := by rw [resetRing_eq]
  have other (q : RingId) (ne : q ≠ r) : (s.resetRing r).ring q = s.ring q :=
    onlyRing_ring _ q r (Laws.resetRing_only r s) ne
  refine belongingLaw_congr law (keepsContexts_of_map _ (resetRing_ctx s r) (afterReset_req · r)
    (fun y q h => (afterReset_ring y r q h).1)) (fun u => by rw [resetRing_eq]; rfl) (fun k x q at_ own h => ?_)
    (fun e _ h => ?_) (by rw [hold]; exact List.Subset.refl _)
  · rw [resetRing_ctx] at at_
    obtain ⟨y, -, rfl⟩ := Option.map_eq_some_iff.1 at_
    rwa [other q (afterReset_ring y r q own).2] at h
  · refine fun why => ⟨(h why).1, fun q own => ?_⟩
    by_cases e : q = r
    · subst e
      rw [resetRing_ring_self]
      simp [Phase.state, Ring.ringReset, Ring.reset]
    · rw [other q e]
      exact (h why).2 q own

/-- The return of a response frees the tag and the context that carried it (R54, R158). -/
theorem afterReturn_belongs (p : HostResponse) (ps : List HostResponse) (law : BelongingLaw s) :
    BelongingLaw (s.afterReturn p ps) := by
  obtain ⟨counted, apart, belongs, held⟩ := (belongingLaw_iff s).1 law
  have ctx (k : CtxId) (x : Context) (h : (s.afterReturn p ps).ctx k = some x) :
      s.ctx k = some x ∧ x.req.tag ≠ p.tag := by
    rw [afterReturn_ctx] at h
    split at h
    · simp at h
    · next no => exact ⟨h, fun own => no (by simp [h, carries?, own])⟩
  have phase (q : RingId) : ((s.afterReturn p ps).ring q).phase = (s.ring q).phase := by
    obtain ⟨n, h⟩ := afterReturn_ring s q p ps
    rw [h]
  refine (belongingLaw_iff _).2 ⟨fun k x at_ => ?_, ?_, fun k x q at_ own => ?_, fun e he => ?_⟩
  · obtain ⟨at_, ne⟩ := ctx k x at_
    obtain ⟨e, q, entry, rest⟩ := counted k x at_
    exact ⟨e, q, by rw [afterReturn_tagEntry, if_neg ne, entry], rest⟩
  · exact apart_congr apart fun k x at_ => ⟨x, (ctx k x at_).1, rfl, fun _ => id⟩
  · rw [phase]
    exact belongs k x q (ctx k x at_).1 own
  · refine mayHold_congr phase (held e ?_)
    rwa [afterReturn_eq] at he

/-- An entry that goes to memory or comes back keeps the ring that counts it. -/
theorem belongingLaw_of_counted {s t : State} (law : BelongingLaw s) (contexts : t.contexts = s.contexts)
    (entry : ∀ u e, s.tagEntry u = some e → ∃ e', t.tagEntry u = some e' ∧ e'.counted = e.counted)
    (rings : ∀ r, t.ring r = s.ring r) (hold : t.hold = s.hold) : BelongingLaw t := by
  obtain ⟨counted, apart, belongs, held⟩ := (belongingLaw_iff s).1 law
  have ctx (k : CtxId) : t.ctx k = s.ctx k := congrArg (·.get k) contexts
  refine (belongingLaw_iff t).2 ⟨fun k x at_ => ?_, apart_congr apart (keepsContexts_of_eq ctx), fun k x r at_ own => ?_,
    fun e he => mayHold_congr (fun r => by rw [rings]) (held e (hold ▸ he))⟩
  · obtain ⟨e, q, at_, hq, own⟩ := counted k x (ctx k ▸ at_)
    obtain ⟨e', at_', same⟩ := entry _ e at_
    exact ⟨e', q, at_', same.trans hq, own⟩
  · rw [rings]
    exact belongs k x r (ctx k ▸ at_) own

theorem setTag_entry (s : State) (h : HostTag) (e e' : TagEntry) (at_ : s.tagEntry h = some e)
    (counted : e'.counted = e.counted) (u : HostTag) (f : TagEntry) (hf : s.tagEntry u = some f) :
    ∃ f', (s.setTag h (some e')).tagEntry u = some f' ∧ f'.counted = f.counted := by
  rw [State.setTag_tagEntry]
  split
  · next own =>
    subst own
    obtain rfl := Option.some.inj (at_.symm.trans hf)
    exact ⟨e', rfl, counted⟩
  · exact ⟨f, hf, rfl⟩

theorem fillRoom_tags (s : State) : s.fillRoom.tags = s.tags := by
  unfold State.fillRoom
  split
  · rfl
  · split <;> rfl

theorem issueHost_belongs (law : BelongingLaw s) : BelongingLaw s.issueHost := by
  refine belongingLaw_of_counted law (by rw [issueHost_eq]) (fun u e at_ => ?_) (issueHost_ring s) (by rw [issueHost_eq])
  unfold State.issueHost
  split
  · exact ⟨e, at_, rfl⟩
  · next q qs head =>
    simp only [State.tagEntry, fillRoom_tags]
    split
    · exact ⟨e, at_, rfl⟩
    · next f held => exact setTag_entry _ q.tag f { f with atMemory := true } held rfl u e at_

theorem hostMemoryResponse_belongs (h : HostTag) (st : MemStatus) (data : List Byte) (law : BelongingLaw s) :
    BelongingLaw (s.hostMemoryResponse h st data) := by
  refine belongingLaw_of_counted law (by rw [hostMemoryResponse_eq]) (fun u e at_ => ?_)
    (fun r => hostMemoryResponse_ring s r h st data) (by rw [hostMemoryResponse_eq])
  unfold State.hostMemoryResponse
  split
  · exact ⟨e, at_, rfl⟩
  · next f held =>
    split
    · simp only
      split <;> exact setTag_entry s h f { f with atMemory := false } held rfl u e at_
    · exact ⟨e, at_, rfl⟩

/-! ### Every act -/

/-- A held entry leaves or changes: what the others and the contexts say stays. -/
theorem withHold_belongs (hold : List HoldEntry) (law : BelongingLaw s) (held : ∀ e ∈ hold, s.mayHold e) :
    BelongingLaw { s with hold } := by
  obtain ⟨counted, apart, belongs, -⟩ := (belongingLaw_iff s).1 law
  exact (belongingLaw_iff _).2 ⟨counted, apart, belongs, held⟩

theorem Act.belongs {c : Instr} {s0 s t : State} (h : Act c s0 s t) (traffic : TrafficLaw s) (law : BelongingLaw s) :
    BelongingLaw t := by
  have held := ((belongingLaw_iff s).1 law).2.2.2
  have still {t : State} (contexts : t.contexts = s.contexts) (tags : t.tags = s.tags)
      (phase : ∀ r, (t.ring r).phase = (s.ring r).phase) (hold : t.hold = s.hold) : BelongingLaw t :=
    belongingLaw_still law (keepsContexts_of_eq fun k => congrArg (·.get k) contexts) (fun u => congrArg (·.get u) tags)
      phase (by rw [hold]; exact List.Subset.refl _)
  have changes (k : CtxId) (y z : Context) (at_ : s.ctx k = some y) (goes : y.GoesOn z) :
      s.KeepsContexts (s.setCtx k (some z)) := by
    intro j w hw
    rw [State.setCtx_ctx] at hw
    split at hw
    · next e =>
      obtain rfl := Option.some.inj hw
      exact ⟨y, e ▸ at_, goes.req, fun r own => goes.ring ▸ own⟩
    · exact ⟨w, hw, rfl, fun _ => id⟩
  cases h with
  | quiet t h => exact still h.contexts h.tags (fun r => congrArg (fun v => (v.get r).phase) h.rings) h.hold
  | raises b => exact still (by simp) (by simp) (fun r => by simp) (by simp)
  | time n => exact still rfl rfl (fun r => by rw [State.passTime_ring]) rfl
  | ring r y h =>
    refine setRing_belongs r y law (fun free ⟨k, x, at_, own⟩ => ?_) fun _ _ _ => h.unheld
    exact (h.free free).resolve_right (inFlight_ne_zero traffic law k x r at_ own)
  | opens r mode run first from_ cells score none =>
    exact setRing_belongs r _ law (fun _ _ => .inl from_) fun e he own => by simp [none e he] at own
  | rollsBack r from_ none =>
    refine setRing_belongs r _ law (fun free _ => ?_) fun e he own => by simp [none e he] at own
    simp [Phase.free, Phase.state] at free
  | configures r cfg by_ at_ cells => exact setRing_belongs r _ law (fun free _ => free) fun _ _ _ h => h
  | setsInterval r code by_ => exact setRing_belongs r _ law (fun free _ => free) fun _ _ _ h => h
  | breaks r x cause may h =>
    have phase : x.phase = (s.ring r).phase := by
      cases h with
      | plain n fits noMark => rfl
      | withdrawn n fits at_ => exact withdrawMark_phase _
    exact becomeBroken_belongs r cause (setRing_belongs r x law (fun free _ => phase ▸ free) fun _ _ _ h => phase ▸ h)
  | resets r => exact resetRing_belongs r law
  | forwards k =>
    exact belongingLaw_still law (forwardCtx_keepsContexts s k) (fun u => by rw [forwardCtx_eq]; rfl)
      (fun r => by rw [forwardCtx_ring]) (by rw [forwardCtx_eq]; exact List.Subset.refl _)
  | answersCtx k h =>
    exact belongingLaw_still law (answerCtx_keepsContexts s k) (fun u => by rw [answerCtx_eq]; rfl)
      (fun r => by rw [answerCtx_ring]) (by rw [answerCtx_eq]; exact List.Subset.refl _)
  | context k y z at_ h =>
    exact belongingLaw_still law (changes k y z at_ h) (fun _ => rfl) (fun _ => rfl) (List.Subset.refl _)
  | rises r by_ =>
    refine belongingLaw_still law (keepsContexts_of_map _ (frontierRise_ctx s r) (fun y => ?_) fun y q own => ?_)
      (fun u => by rw [frontierRise_eq]; rfl) (fun q => by rw [frontierRise_ring])
      (by rw [frontierRise_eq]; exact List.Subset.refl _)
    · split <;> rfl
    · split at own <;> exact own
  | retries r =>
    refine belongingLaw_still law (keepsContexts_of_eq fun k => by rw [retryHeld_eq]; rfl)
      (fun u => by rw [retryHeld_eq]; rfl) (fun q => by rw [retryHeld_ring]) ?_
    rw [retryHeld_hold]
    exact fun e he => List.mem_of_mem_filter he
  | arrives q u free h =>
    exact h.belongs (enrol_belongs q free law) (by simp [State.enrol]) (by simp [State.enrol])
  | arrivesHeld e free room h =>
    refine withHold_belongs (s := s.enrol e.req) _ (enrol_belongs e.req free law) fun x hx => ?_
    rcases List.mem_append.1 hx with hx | hx
    · exact held x hx
    · obtain rfl := List.mem_singleton.1 hx
      exact h
  | leaves ahead e es u at_ h =>
    obtain ⟨carries, uncounted⟩ := leave_carries ahead e es at_ traffic
    obtain ⟨f, entry⟩ := carries.entry (h := e.req.tag) (by simp [inHand])
    refine h.belongs (withHold_belongs _ law fun x hx => held x ?_) (by rw [entry]; rfl) uncounted
    simp only [at_, List.mem_append, List.mem_cons] at hx ⊢
    tauto
  | stays ahead e e' es at_ req h =>
    refine withHold_belongs _ law fun x hx => ?_
    simp only [at_, List.mem_append, List.mem_cons] at hx held
    rcases hx with hx | rfl | hx
    · exact held x (.inl hx)
    · exact h (held e (.inr (.inl rfl)))
    · exact held x (.inr (.inr hx))
  | steerEnds r q u at_ h =>
    have cut : BelongingLaw (s.setRing r { s.ring r with
        steered := (s.ring r).steered.filter fun p => p.req.tag != q.req.tag }) :=
      setRing_belongs r _ law (fun free _ => free) fun _ _ _ h => h
    cases h with
    | answered st data =>
      exact belongingLaw_still cut (keepsContexts_of_eq fun _ => rfl) (fun _ => rfl) (fun _ => rfl) (List.Subset.refl _)
    | decided src =>
      exact belongingLaw_still cut (keepsContexts_of_eq fun k => State.decide_ctx ..) (fun _ => State.decide_tagEntry ..)
        (fun r => by rw [State.decide_ring]) (by rw [State.decide_hold]; exact List.Subset.refl _)
  | returns p ps h => exact afterReturn_belongs p ps law
  | issues => exact issueHost_belongs law
  | memory h st data => exact hostMemoryResponse_belongs h st data law
  | device by_ =>
    have ctx := inDeviceReset_ctx s
    exact ⟨fun c x h => by simp [ctx] at h, fun c d x y h => by simp [ctx] at h, fun c x r h => by simp [ctx] at h,
      fun e he => absurd he (List.not_mem_nil), fun e he => absurd he (List.not_mem_nil)⟩
  | loads | takes | answers | takesFrame | endsFrame | collects | reads | mode | region =>
    exact still rfl rfl (fun _ => rfl) rfl

end

/-- Settles O58: each elementary act keeps the traffic law, and with it the law of contexts and held entries. -/
theorem everyRequestStandsInOnePlace : Obligations.EveryRequestStandsInOnePlace := by
  intro s t traffic h
  obtain ⟨c, rest, acts⟩ := step_acts s t h
  have traffic : TrafficLaw { s with pending := rest } := traffic
  refine ⟨acts.keeps (P := TrafficLaw) (fun _ _ h => h.traffic) traffic, fun law => ?_⟩
  have both := acts.keeps (P := fun u => TrafficLaw u ∧ BelongingLaw u)
    (fun _ _ h ⟨traffic, law⟩ => ⟨h.traffic traffic, h.belongs traffic law⟩) ⟨traffic, law⟩
  exact both.2

end Sys2Proof.Machine

/-! Frames on the management port (chapter 11): what a frame is, the acts of a COMMAND frame and of a read frame, and the
records that STATUS and EVENT reads deliver, byte by byte. -/

namespace Sys2Proof.Machine

/-! ### The acts of a read frame (R167) -/

section
variable (s : State) (f : State → Frame) (n : Nat) (ready : s.frameWait = false)
include ready

theorem readFrame_whole (free : s.frame = none) : s.readFrame f (.whole n) = s.endFrame (f s) n := by
  simp [State.readFrame, State.whole, free, ready]

theorem readFrame_kindByte (free : s.frame = none) : s.readFrame f .kindByte = { s with frame := some (f s) } := by
  simp [State.readFrame, free, ready]

theorem readFrame_ends (g : Frame) (taken : s.frame = some g) (same : g.sameKind (f s) = true) :
    s.readFrame f (.ends n) = s.endFrame g n := by
  simp [State.readFrame, taken, ready, same]

end

section
variable (s : State) (i : SlotId) (part : FramePart) (hs : s.inReset = false)
include hs

theorem exec_responseRead : exec (.responseRead i part) s = .next (s.readFrame (fun t => t.responseFrame i) part) :=
  running_eq s _ hs

theorem exec_statusRead : exec (.statusRead part) s = .next (s.readFrame State.statusFrame part) := running_eq s _ hs

theorem exec_eventRead : exec (.eventRead part) s = .next (s.readFrame State.eventFrame part) := running_eq s _ hs

end

/-- With no read frame in progress, a frame that ends only drives its bytes before it acts. -/
theorem endFrame_free (s : State) (f : Frame) (n : Nat) (free : s.frame = none) : s.endFrame f n =
    let z := { s with sdo := shifted f.record n }
    if f.record.length ≤ n then f.completed z else z := by
  have same : { s with frame := none, sdo := shifted f.record n } = { s with sdo := shifted f.record n } := by rw [← free]
  simp only [State.endFrame, same]

/-- A record is driven behind the zero of the kind byte, and zeros behind the record (R166). -/
theorem shifted_eq (rec : List Byte) (n : Nat) : shifted rec n = 0 :: (rec ++ List.replicate n 0).take n := rfl

theorem shifted_nil (n : Nat) : shifted [] n = List.replicate (1 + n) 0 := by
  simp [shifted, padTo, Nat.add_comm 1, List.replicate_succ]

/-! ### What a read frame takes at its kind byte (R172, R173, R177) -/

theorem notReadyRecord_eq : notReadyRecord = [0, 0, 0x0B] ++ List.replicate 29 0 := rfl

theorem noEventRecord_eq : noEventRecord = [0, 0, 0xFF, 0, 0, 0, 0, 0, 0, 0, 0, 0, 0xFF, 0, 0, 0] := rfl

section
variable (s : State) (i : SlotId)

theorem responseFrame_answered (rec : List Byte) (h : s.slot i = .answered rec) :
    s.responseFrame i = .response i rec true := by
  simp [State.responseFrame, h]

theorem responseFrame_notReady (h : ∀ rec, s.slot i ≠ .answered rec) :
    s.responseFrame i = .response i notReadyRecord false := by
  unfold State.responseFrame
  split
  · next rec answered => exact absurd answered (h rec)
  all_goals rfl

theorem responseFrame_sameKind (rec : List Byte) (held : Bool) :
    (Frame.response i rec held).sameKind (s.responseFrame i) = true := by
  unfold State.responseFrame
  split <;> exact beq_self_eq_true i

theorem eventFrame_sameKind (rec : List Byte) (held : Bool) : (Frame.event rec held).sameKind s.eventFrame = true := by
  unfold State.eventFrame
  split <;> rfl

theorem eventFrame_cons (e : Event) (es : List Event) (h : s.events = e :: es) :
    s.eventFrame = .event (eventRecord e) true := by
  simp [State.eventFrame, h]

theorem eventFrame_empty (h : s.events = []) : s.eventFrame = .event noEventRecord false := by
  simp [State.eventFrame, h]

end

/-- Settles O4: the frame of the slot, driven, and completed from 32 body bytes on. -/
theorem responseReadCollectsTheAnswer : Obligations.ResponseReadCollectsTheAnswer := by
  intro s i n hs free ready
  have acts : exec (.responseRead i (.whole n)) s = .next (s.endFrame (s.responseFrame i) n) := by
    rw [exec_responseRead s i _ hs, readFrame_whole s _ n ready free]
  rw [acts]
  refine ⟨fun rec answered whole => ?_, fun notAnswered => ?_⟩
  · rw [responseFrame_answered s i rec answered, endFrame_free _ _ _ free]
    simp only [Frame.record, Frame.completed, whole, ← Nat.not_lt, ite_not, shifted_eq]
  · rw [responseFrame_notReady s i notAnswered, endFrame_free _ _ _ free]
    have zeros : notReadyRecord ++ List.replicate n 0 = [0, 0, 0x0B] ++ List.replicate (29 + n) 0 := by
      rw [notReadyRecord_eq, List.append_assoc, List.replicate_append_replicate]
    have driven : shifted notReadyRecord n = 0 :: ([0, 0, 0x0B] ++ List.replicate (29 + n) 0).take n := by
      rw [shifted_eq, zeros]
      simp [List.flatMap_replicate]
    simp only [Frame.record, Frame.completed, driven]
    split <;> rfl

/-! ### The fields of the status record and of an event record (R184) -/

/-- The bytes of a number of one byte. -/
theorem leBytes_one (v : Nat) : leBytes 1 v = [BitVec.ofNat 8 v] := rfl

theorem byteAt_cons_zero (b : Byte) (bs : List Byte) : byteAt (b :: bs) 0 = b.toNat := rfl

theorem byteAt_cons_succ (b : Byte) (bs : List Byte) (k : Nat) : byteAt (b :: bs) (k + 1) = byteAt bs k := rfl

theorem rings_eq (s : State) : s.rings.toList = [s.ring 0, s.ring 1, s.ring 2, s.ring 3] := vec_toList_eq_ofFn s.rings

/-- The bytes of the status record in their order. -/
theorem statusRecord_eq (s : State) : statusRecord s =
    BitVec.ofNat 8 s.mode.code :: BitVec.ofNat 8 (s.slot 0).code :: BitVec.ofNat 8 (s.slot 1).code ::
    BitVec.ofNat 8 (flagBit (s.rejected.get 0) + 2 * flagBit (s.rejected.get 1)) :: BitVec.ofNat 8 s.events.length ::
    BitVec.ofNat 8 (flagBit s.overrun) :: BitVec.ofNat 8 (s.ring 0).phase.state.code ::
    BitVec.ofNat 8 (s.ring 1).phase.state.code :: BitVec.ofNat 8 (s.ring 2).phase.state.code ::
    BitVec.ofNat 8 (s.ring 3).phase.state.code :: BitVec.ofNat 8 s.eventNumber.toNat :: List.replicate 5 0 := by
  rw [statusRecord, rings_eq]
  rfl

theorem toNat_ofNat_byte (v : Nat) (h : v < 256) : (BitVec.ofNat 8 v).toNat = v := by
  simpa using Nat.mod_eq_of_lt h

theorem Mode.code_lt (m : Mode) : m.code < 256 := by cases m <;> decide

theorem Slot.code_lt (w : Slot) : w.code < 256 := by cases w <;> simp [Slot.code]

theorem RingState.code_lt (x : RingState) : x.code < 256 := by cases x <;> decide

theorem flagBit_le (b : Bool) : flagBit b ≤ 1 := by cases b <;> decide

theorem EventBody.kindCode_lt (b : EventBody) : b.kindCode < 256 := by cases b <;> simp [EventBody.kindCode]

theorem Cause.code_lt (c : Cause) : c.code < 256 := by cases c <;> decide

theorem CkptReason.code_lt (c : CkptReason) : (MarkReason.checkpoint c).code < 256 := by cases c <;> decide

theorem OpenMode.code_lt (m : OpenMode) : m.code < 256 := by cases m <;> decide

theorem CloseCause.code_lt (c : CloseCause) : c.code < 256 := by cases c <;> decide

theorem EventBody.causeField_lt (b : EventBody) : b.causeField < 256 := by
  cases b
  case opened m _ _ => exact m.code_lt
  case openFailed c => exact c.code_lt
  case checkpointed c _ _ => exact c.code_lt
  case broken c _ => exact c.code_lt
  case closed c => exact c.code_lt
  all_goals simp [EventBody.causeField]

theorem EventBody.epochField_lt (b : EventBody) : b.epochField < 2 ^ 32 := by
  cases b
  case opened e _ => exact e.isLt
  case checkpointed e _ => exact e.isLt
  case rolledBack e _ => exact e.isLt
  all_goals simp [EventBody.epochField]

/-- The single bytes at the front of an event record. -/
theorem eventRecord_front (e : Event) : eventRecord e =
    BitVec.ofNat 8 e.number.toNat :: BitVec.ofNat 8 e.body.kindCode :: BitVec.ofNat 8 e.body.ringField ::
    BitVec.ofNat 8 e.body.causeField :: (leBytes 4 e.body.epochField ++ (leBytes 4 e.body.countField ++
      (BitVec.ofNat 8 e.body.tagField :: List.replicate 3 0))) := by
  rw [eventRecord_eq]
  simp only [List.append_assoc]
  rfl

/-- The status record read back byte by byte. -/
theorem statusRecord_bytes (s : State) (room : s.events.length ≤ 32) :
    let b := statusRecord s
    b.length = 16 ∧ byteAt b 0 = s.mode.code ∧ byteAt b 1 = (s.slot 0).code ∧ byteAt b 2 = (s.slot 1).code ∧
    byteAt b 3 = flagBit (s.rejected.get 0) + 2 * flagBit (s.rejected.get 1) ∧ byteAt b 4 = s.events.length ∧
    byteAt b 5 = flagBit s.overrun ∧ (∀ r : RingId, byteAt b (6 + r.val) = (s.ring r).phase.state.code) ∧
    byteAt b 10 = s.eventNumber.toNat ∧ b.drop 11 = List.replicate 5 0 := by
  have rejected := flagBit_le (s.rejected.get 0)
  have rejected' := flagBit_le (s.rejected.get 1)
  have number : s.eventNumber.toNat < 256 := s.eventNumber.isLt
  refine ⟨statusRecord_length s, ?_⟩
  rw [statusRecord_eq]
  refine ⟨toNat_ofNat_byte _ (Mode.code_lt _), toNat_ofNat_byte _ (Slot.code_lt _), toNat_ofNat_byte _ (Slot.code_lt _),
    toNat_ofNat_byte _ (by omega), toNat_ofNat_byte _ (by omega), toNat_ofNat_byte _ (flagBit_lt _), fun r => ?_,
    toNat_ofNat_byte _ number, rfl⟩
  match r with
  | 0 | 1 | 2 | 3 => exact toNat_ofNat_byte _ (RingState.code_lt _)

/-- An event record read back byte by byte. -/
theorem eventRecord_bytes (e : Event) (counted : e.body.countField < 2 ^ 32) :
    let b := eventRecord e
    b.length = 16 ∧ byteAt b 0 = e.number.toNat ∧ byteAt b 1 = e.body.kindCode ∧ byteAt b 2 = e.body.ringField ∧
    byteAt b 3 = e.body.causeField ∧ fieldAt b 4 4 = e.body.epochField ∧ fieldAt b 8 4 = e.body.countField ∧
    byteAt b 12 = e.body.tagField ∧ b.drop 13 = List.replicate 3 0 := by
  have number : e.number.toNat < 256 := e.number.isLt
  refine ⟨eventRecord_length e, ?_, ?_, eventRecord_ringField e, ?_, ?_, ?_, eventRecord_tagField e, ?_⟩
  all_goals rw [eventRecord_front]
  · exact toNat_ofNat_byte _ number
  · exact toNat_ofNat_byte _ (EventBody.kindCode_lt _)
  · exact toNat_ofNat_byte _ (EventBody.causeField_lt _)
  · exact fieldAt_leBytes_append 4 _ _ (EventBody.epochField_lt _)
  · exact (fieldAt_leBytes_append_right 4 e.body.epochField _ 0 4).trans (fieldAt_leBytes_append 4 _ _ counted)
  · rfl

/-! ### STATUS and EVENT reads (R173, R174, R177) -/

/-- A rejected flag that reads clear is not changed by clearing it. -/
theorem setRejected_false (s : State) (i : SlotId) (h : s.rejected.get i = false) : s.setRejected i false = s := by
  rw [State.setRejected, ← h, vec_set_get]

theorem clearRejected_eq (s : State) (i : SlotId) (b : Bool) (h : s.rejected.get i = b) :
    (if b then s.setRejected i false else s) = s.setRejected i false := by
  cases b with
  | true => rfl
  | false => exact (setRejected_false s i h).symm

/-- A completed STATUS read of the flags as they stand clears all three (R174). -/
theorem statusFrame_completed (s : State) (rec : List Byte) :
    (Frame.status rec (s.rejected.get 0) (s.rejected.get 1) s.overrun).completed s =
      { (s.setRejected 0 false).setRejected 1 false with overrun := false } := by
  have other : (s.setRejected 0 false).rejected.get 1 = s.rejected.get 1 := vec_get_set_ne _ _ _ _ (by decide)
  simp only [Frame.completed]
  rw [clearRejected_eq s 0 _ rfl, clearRejected_eq _ 1 _ other]
  cases h : s.overrun with
  | true => rfl
  | false => rw [if_neg Bool.false_ne_true, ← h]; rfl

/-- Settles O5: the frames of the two reads, driven and completed, their records byte by byte, and the tables of codes. -/
theorem statusAndEventReads : Obligations.StatusAndEventReads := by
  intro s n hs free ready room
  have status : exec (.statusRead (.whole n)) s = .next (s.endFrame s.statusFrame n) := by
    rw [exec_statusRead s _ hs, readFrame_whole s _ n ready free]
  have event := exec_eventRead_whole s n hs free ready
  refine ⟨?_, fun e es h => ?_, fun h => ?_, statusRecord_bytes s room, fun e => eventRecord_bytes e,
    fun r e k h => ?_, fun rec => ⟨rfl, rfl, rfl, rfl⟩, rfl, rfl, by decide⟩
  · rw [status, endFrame_free _ _ _ free]
    have cleared := statusFrame_completed { s with sdo := shifted (statusRecord s) n } (statusRecord s)
    simp only [State.statusFrame, Frame.record, statusRecord_length, ← Nat.not_lt, ite_not]
    exact congrArg _ (congrArg _ cleared)
  · rw [event, eventFrame_cons s e es h, endFrame_free _ _ _ free]
    simp only [Frame.record, Frame.completed, eventRecord_length, ← Nat.not_lt, ite_not, shifted_eq, h, List.tail_cons]
  · rw [event, eventFrame_empty s h, endFrame_free _ _ _ free]
    exact congrArg _ (ite_self _)
  · refine ⟨rfl, rfl, ?_, ?_, rfl, rfl, rfl, rfl, rfl, rfl, rfl⟩
    · intro p hp
      simp only [List.mem_cons, List.not_mem_nil, or_false] at hp
      rcases hp with rfl | rfl | rfl | rfl | rfl | rfl | rfl | rfl | rfl <;> exact ⟨rfl, rfl⟩
    · intro p hp
      simp only [List.mem_cons, List.not_mem_nil, or_false] at hp
      rcases hp with rfl | rfl | rfl <;> rfl

/-! ### A read frame in two acts -/

theorem setRejected_rejected (s : State) (i j : SlotId) (b : Bool) :
    (s.setRejected i b).rejected.get j = if j = i then b else s.rejected.get j := by
  split
  · next h => rw [h]; exact vec_get_set_self ..
  · next h => exact vec_get_set_ne _ _ _ _ h

/-- A completed STATUS read clears the flags it took as set, and no other. -/
theorem status_completed (s : State) (rec : List Byte) (a b o : Bool) :
    let u := (Frame.status rec a b o).completed s
    u.rejected.get 0 = (s.rejected.get 0 && !a) ∧ u.rejected.get 1 = (s.rejected.get 1 && !b) ∧
      u.overrun = (s.overrun && !o) ∧ u = { s with rejected := u.rejected, overrun := u.overrun } := by
  cases a <;> cases b <;> cases o <;>
    simp only [Frame.completed, if_true, Bool.false_eq_true, if_false, setRejected_rejected, State.setRejected_overrun] <;>
    simp [State.setRejected]

/-- The end of a read frame whose completion acts only if it took something at its kind byte. -/
theorem endFrame_held (t : State) (g : Frame) (n : Nat) (held : Bool) (act : State → State)
    (acts : ∀ u, g.completed u = if held = true then act u else u) : t.endFrame g n =
      let ended := { t with sdo := shifted g.record n, frame := none }
      if g.record.length ≤ n ∧ held = true then act ended else ended := by
  simp only [State.endFrame, acts, ite_and]

/-- Settles O6: what each kind byte takes, and what the end of each frame makes of what was taken. -/
theorem readFramesActOnWhatTheyTook : Obligations.ReadFramesActOnWhatTheyTook := by
  refine ⟨fun s i hs free ready => ⟨?_, fun e es h => ?_, fun h => ?_, fun rec h => ?_, fun h => ?_⟩,
    fun t i n rec held hs ready => ⟨fun a b o taken => ?_, fun taken => ?_, fun taken => ?_⟩⟩
  · rw [exec_statusRead s _ hs, readFrame_kindByte s _ ready free]
    rfl
  · rw [exec_eventRead s _ hs, readFrame_kindByte s _ ready free, eventFrame_cons s e es h]
  · rw [exec_eventRead s _ hs, readFrame_kindByte s _ ready free, eventFrame_empty s h, noEventRecord_eq]
  · rw [exec_responseRead s i _ hs, readFrame_kindByte s _ ready free, responseFrame_answered s i rec h]
  · rw [exec_responseRead s i _ hs, readFrame_kindByte s _ ready free, responseFrame_notReady s i h, notReadyRecord_eq]
  · rw [exec_statusRead t _ hs, readFrame_ends t _ n ready _ taken rfl, State.endFrame]
    refine ⟨fun short => ?_, fun whole => ⟨_, by rw [if_pos (show (Frame.status rec a b o).record.length ≤ n from whole)], ?_⟩⟩
    · rw [if_neg (show ¬ (Frame.status rec a b o).record.length ≤ n from Nat.not_le.2 short)]
      rfl
    · exact status_completed { t with frame := none, sdo := shifted rec n } rec a b o
  · rw [exec_eventRead t _ hs, readFrame_ends t _ n ready _ taken (eventFrame_sameKind t rec held)]
    exact congrArg _ (endFrame_held t (.event rec held) n held (fun u => { u with events := u.events.tail })
      fun u => by cases held <;> rfl)
  · rw [exec_responseRead t i _ hs, readFrame_ends t _ n ready _ taken (responseFrame_sameKind t i rec held)]
    exact congrArg _ (endFrame_held t (.response i rec held) n held (fun u => u.setSlot i .empty)
      fun u => by cases held <;> rfl)

/-! ### COMMAND frames and frames of an undefined kind (R166, R168, R169) -/

/-- The bits of a byte in the order in which they pass spell the byte. -/
theorem portByte_portBits : ∀ b : Byte, portByte (portBits b) = b := by decide +kernel

theorem portBits_eq (b : Byte) : portBits b =
    [b.getMsbD 0, b.getMsbD 1, b.getMsbD 2, b.getMsbD 3, b.getMsbD 4, b.getMsbD 5, b.getMsbD 6, b.getMsbD 7] := rfl

theorem portBytes_portBits_append (b : Byte) (rest : List Bool) :
    portBytes (portBits b ++ rest) = b :: portBytes rest := by
  rw [← portByte_portBits b, portBits_eq]
  show portByte _ :: portBytes rest = _
  rw [← portBits_eq, portByte_portBits, portByte_portBits]

/-- Fewer than eight bits make no byte. -/
theorem portBytes_short (rest : List Bool) (h : rest.length < 8) : portBytes rest = [] := by
  unfold portBytes
  split
  · simp only [List.length_cons] at h
    omega
  · rfl

theorem portBytes_bits (bytes : List Byte) (rest : List Bool) (h : rest.length < 8) :
    portBytes (bytes.flatMap portBits ++ rest) = bytes := by
  induction bytes with
  | nil => exact portBytes_short rest h
  | cons b bs ih => rw [List.flatMap_cons, List.append_assoc, portBytes_portBits_append, ih]

/-- The kind bytes of R166 are the six it lists. -/
theorem frameKindOf_undefined (k : Byte) (h : k ∉ ([0x01, 0x02, 0x11, 0x12, 0x20, 0x30] : List Byte)) :
    frameKindOf k = none := by
  revert k
  decide +kernel

/-- A frame that finds the port free acts. -/
theorem whole_free (s : State) (act : State → State) (ready : s.frameWait = false) (free : s.frame = none) :
    s.whole act = act s := by
  simp [State.whole, ready, free]

/-- A short COMMAND frame is discarded, a whole one loads an EMPTY slot, and one to another slot is rejected. -/
theorem loadCommand_eq (s : State) (i : SlotId) (body : List Byte) : s.loadCommand i body =
    let z := { s with sdo := List.replicate (1 + body.length) 0 }
    if body.length < 32 then z
    else if s.slot i = .empty then { z.setSlot i (.loaded (body.take 32)) with loadOrder := s.loadOrder ++ [i] }
    else z.setRejected i true := by
  have slot : ({ s with sdo := List.replicate (1 + body.length) 0 } : State).slot i = s.slot i := rfl
  simp only [State.loadCommand, shifted_nil, slot]
  cases s.slot i <;> simp

section
variable (s : State) (hs : s.inReset = false)
include hs

theorem exec_commandFrame (i : SlotId) (body : List Byte) :
    exec (.commandFrame i body) s = .next (s.whole fun t => t.loadCommand i body) :=
  running_eq s _ hs

theorem exec_unknownFrameKind (k : Byte) (n : Nat) (h : k ∉ ([0x01, 0x02, 0x11, 0x12, 0x20, 0x30] : List Byte)) :
    exec (.unknownFrameKind k n) s = .next (s.whole fun t => { t with sdo := shifted [] n }) := by
  refine (running_eq s _ hs).trans ?_
  simp [kindDefined, frameKindOf_undefined k h]

end

/-- Settles O3: the bytes and the kinds of frames, and the two frames that drive zeros. -/
theorem framesToTheBridge : Obligations.FramesToTheBridge := by
  refine ⟨fun body k => ⟨rfl, rfl, rfl, rfl, rfl, rfl, rfl, fun h => ?_⟩, portBytes_bits, fun b => ⟨rfl, fun n hn => ?_⟩,
    fun s i body k n hs free ready => ⟨?_, fun h => ?_⟩⟩
  · rw [commandOfFrame, frameKindOf_undefined k h]
  · have bit : (portBits b).getD n false = b.getMsbD n := by simp [portBits, hn]
    rw [bit, BitVec.getMsbD_eq_getLsbD]
    simp only [hn, decide_true, Bool.true_and, show 8 - 1 - n = 7 - n from rfl]
  · rw [exec_commandFrame s hs, whole_free s _ ready free, loadCommand_eq]
  · rw [exec_unknownFrameKind s hs k n h, whole_free s _ ready free, shifted_nil]

/-! ### The event queue (R175) -/

/-- Settles O7: the queue with room and the full queue. -/
theorem eventQueueTakesAnEvent : Obligations.EventQueueTakesAnEvent := by
  intro s b
  refine ⟨?_, fun room => ⟨raise_events_of_room s b room, ?_⟩, fun full => ⟨raise_events_of_full s b full, ?_⟩, ?_⟩
  · rw [raise_eq, BitVec.toNat_add]
    rfl
  · simp [State.raise, Config.eventPlaces, room]
  · simp [State.raise, Config.eventPlaces, Nat.not_lt.2 full]
  · unfold State.raise
    split <;> rfl

end Sys2Proof.Machine

/-! The command unit (R170, R171), and the answers of the commands of the classifier, the ring configuration and the ring
operations. -/

namespace Sys2Proof.Machine

/-! ### The commands and their owners -/

section
variable (s : State) (part : CommandPart) (hs : s.inReset = false)
include hs

theorem exec_setMode : exec (.setMode part) s = .next (s.execute part .setMode setModeOwner) := running_eq s _ hs

theorem exec_writeRegion : exec (.writeRegion part) s = .next (s.execute part .writeRegion writeRegionOwner) :=
  running_eq s _ hs

theorem exec_configureRing : exec (.configureRing part) s = .next (s.execute part .configureRing configureOwner) :=
  running_eq s _ hs

theorem exec_readRing : exec (.readRing part) s = .next (s.execute part .readRing readRingOwner) := running_eq s _ hs

theorem exec_setInterval : exec (.setInterval part) s = .next (s.execute part .setInterval setIntervalOwner) :=
  running_eq s _ hs

theorem exec_openRing : exec (.openRing part) s = .next (s.execute part .openRing openOwner) := running_eq s _ hs

theorem exec_checkpoint : exec (.checkpoint part) s = .next (s.execute part .checkpoint checkpointOwner) :=
  running_eq s _ hs

theorem exec_rollback : exec (.rollback part) s = .next (s.execute part .rollback rollbackOwner) := running_eq s _ hs

theorem exec_closeRing : exec (.closeRing part) s = .next (s.execute part .closeRing closeOwner) := running_eq s _ hs

theorem exec_resetRing : exec (.resetRing part) s = .next (s.execute part .resetRing resetOwner) := running_eq s _ hs

theorem exec_unknown_takes : exec (.unknownCommand .takes) s = .next (s.takeCommand none) := running_eq s _ hs

theorem exec_unknown_answers (h : part ≠ .takes) :
    exec (.unknownCommand part) s = .next (s.answerUnknown part) := by
  refine (running_eq s _ hs).trans ?_
  cases part
  case takes => exact absurd rfl h
  all_goals rfl

end

section
variable (s : State) (part : CommandPart) (i : SlotId) (rec : List Byte) (code : CommandCode)
  (owner : RingId → List Byte → State → Answer) (r : RingId) (hat : s.commandAt part = some (i, rec))
  (hcode : commandOf (byteAt rec 0) = some code) (hr : byteAt rec 1 = r.val)
include hat hcode hr

/-- An owner's answer without a result. -/
theorem execute_answer (st : Status) (t : State) (h : owner r rec s = answer st t) :
    s.execute part code owner = t.answerSlot i rec st [] := by
  rw [execute_eq s part i rec code owner r hat hcode (ringOf_some rec r hr), h]
  rfl

end

/-- The code byte and the row of each command, for the acts that the row stands for. -/
def commandRows (part : CommandPart) : List (Nat × Instr) :=
  [(0x01, .setMode part), (0x02, .writeRegion part), (0x03, .readRegion part), (0x04, .configureRing part),
    (0x05, .readRing part), (0x06, .setInterval part), (0x07, .openRing part), (0x08, .checkpoint part),
    (0x09, .rollback part), (0x0A, .closeRing part), (0x0B, .resetRing part)]

/-- Each row of a command is its execution, by the owner of its code. -/
theorem commandRows_execute (s : State) (part : CommandPart) (hs : s.inReset = false) :
    ∀ p ∈ commandRows part, ∃ code owner, commandOf p.1 = some code ∧ exec p.2 s = .next (s.execute part code owner) := by
  intro p hp
  simp only [commandRows, List.mem_cons, List.not_mem_nil, or_false] at hp
  rcases hp with rfl | rfl | rfl | rfl | rfl | rfl | rfl | rfl | rfl | rfl | rfl
  · exact ⟨_, _, rfl, exec_setMode s part hs⟩
  · exact ⟨_, _, rfl, exec_writeRegion s part hs⟩
  · exact ⟨_, _, rfl, exec_readRegion s part hs⟩
  · exact ⟨_, _, rfl, exec_configureRing s part hs⟩
  · exact ⟨_, _, rfl, exec_readRing s part hs⟩
  · exact ⟨_, _, rfl, exec_setInterval s part hs⟩
  · exact ⟨_, _, rfl, exec_openRing s part hs⟩
  · exact ⟨_, _, rfl, exec_checkpoint s part hs⟩
  · exact ⟨_, _, rfl, exec_rollback s part hs⟩
  · exact ⟨_, _, rfl, exec_closeRing s part hs⟩
  · exact ⟨_, _, rfl, exec_resetRing s part hs⟩

theorem commandOf_undefined (n : Nat) (h : n = 0 ∨ 0x0B < n) : commandOf n = none := by
  unfold commandOf
  split
  case h_12 => rfl
  all_goals omega

/-! ### The acts of the command unit (R170) -/

/-- The state in which the command unit has taken the slot loaded first. -/
def State.takenFrom (s : State) (i : SlotId) (rec : List Byte) (rest : List SlotId) : State :=
  { s.setSlot i (.executing rec) with loadOrder := rest }

section
variable (s : State) (i : SlotId) (rest : List SlotId) (rec : List Byte)

theorem takenFrom_slot : (s.takenFrom i rec rest).slot i = .executing rec := State.setSlot_slot_self ..

theorem takenFrom_executing (idle : ∀ k b, s.slot k ≠ .executing b) :
    (s.takenFrom i rec rest).executing = some (i, rec) := by
  refine (executing_iff _ i rec fun j k a b hj hk => ?_).2 (takenFrom_slot s i rest rec)
  have only (l : SlotId) (c : List Byte) (hl : (s.takenFrom i rec rest).slot l = .executing c) : l = i := by
    by_contra ne
    exact idle l c ((State.setSlot_slot_ne s i l _ ne).symm.trans hl)
  rw [only j a hj, only k b hk]

/-- While a slot is EXECUTING the command unit takes none. -/
theorem takenFrom_next (idle : ∀ k b, s.slot k ≠ .executing b) : (s.takenFrom i rec rest).nextCommand = none := by
  simp [State.nextCommand, takenFrom_executing s i rest rec idle]

theorem takenFrom_status : byteAt (statusRecord (s.takenFrom i rec rest)) (1 + i.val) = 2 := by
  have taken := takenFrom_slot s i rest rec
  rw [statusRecord_eq]
  match i with
  | 0 => exact (toNat_ofNat_byte _ (Slot.code_lt _)).trans (by rw [taken]; rfl)
  | 1 => exact (toNat_ofNat_byte _ (Slot.code_lt _)).trans (by rw [taken]; rfl)

end

/-- A COMMAND frame to a slot that is EXECUTING is rejected (R169). -/
theorem commandFrame_rejected (s : State) (i : SlotId) (rec body : List Byte) (hs : s.inReset = false)
    (free : s.frame = none) (ready : s.frameWait = false) (executing : s.slot i = .executing rec)
    (long : 32 ≤ body.length) : exec (.commandFrame i body) s =
      .next ({ s with sdo := List.replicate (1 + body.length) 0 }.setRejected i true) := by
  rw [exec_commandFrame s hs, whole_free s _ ready free, loadCommand_eq]
  simp only [executing, reduceCtorEq, if_false, if_neg (Nat.not_lt.2 long)]

/-- A RESPONSE read of a slot that is EXECUTING finds it NOT-READY (R172). -/
theorem responseRead_executing (s : State) (i : SlotId) (rec : List Byte) (hs : s.inReset = false)
    (free : s.frame = none) (ready : s.frameWait = false) (executing : s.slot i = .executing rec) :
    exec (.responseRead i (.whole 32)) s = .next { s with sdo := [0, 0, 0, 0x0B] ++ List.replicate 29 0 } := by
  rw [exec_responseRead s i _ hs, readFrame_whole s _ 32 ready free,
    responseFrame_notReady s i (by simp [executing]), endFrame_free _ _ _ free]
  exact congrArg _ (ite_self _)

/-- A result shorter than the record is followed by zeros. -/
theorem padTo_eq (n : Nat) (bs : List Byte) (h : bs.length ≤ n) : padTo n bs = bs ++ List.replicate (n - bs.length) 0 := by
  rw [padTo, List.take_append, List.take_of_length_le h, List.take_replicate, Nat.min_eq_left (Nat.sub_le ..)]

theorem Status.code_lt (st : Status) : st.code < 256 := by cases st <;> decide

/-- The bytes of a response record in their order (R182). -/
theorem responseRecord_eq (code ring : Nat) (st : Status) (result : List Byte) : responseRecord code ring st result =
    BitVec.ofNat 8 code :: BitVec.ofNat 8 ring :: BitVec.ofNat 8 st.code :: 0 :: padTo 28 result := rfl

/-- Settles O10: the two acts, the two refusals common to all commands, and the record of an answer. -/
theorem commandUnitRefusesAndAnswers : Obligations.CommandUnitRefusesAndAnswers := by
  refine ⟨⟨fun s i rest rec hs idle loaded record => ?_, fun s part i rec hs hat => ⟨fun undefinedCode => ?_, ?_⟩⟩,
    fun s i rec st result short => ?_, by decide⟩
  · have unitIdle := (executing_none s).2 idle
    refine ⟨(nextCommand_iff s i rec).2 ⟨unitIdle, rest, loaded, record⟩, takenFrom_executing s i rest rec idle,
      takenFrom_next s i rest rec idle, fun p hp code => ?_, fun undefinedCode => ?_, takenFrom_status s i rest rec,
      fun free ready => ⟨fun body => ?_, ?_⟩⟩
    · obtain ⟨c, owner, hc, hexec⟩ := commandRows_execute s .takes hs p hp
      rw [hexec, execute_takes, takeCommand_eq s i rest rec _ unitIdle loaded record (by rw [code, hc])]
    · rw [exec_unknown_takes s hs,
        takeCommand_eq s i rest rec _ unitIdle loaded record (commandOf_undefined _ undefinedCode)]
    · exact commandFrame_rejected (s.takenFrom i rec rest) i rec body hs free ready (takenFrom_slot ..)
    · exact responseRead_executing (s.takenFrom i rec rest) i rec hs free ready (takenFrom_slot ..)
  · have answers : part ≠ .takes := by rintro rfl; cases hat
    rw [exec_unknown_answers s part hs answers]
    simp [State.answerUnknown, hat, commandOf_undefined _ undefinedCode]
  · intro ringField p hp code
    obtain ⟨c, owner, hc, hexec⟩ := commandRows_execute s part hs p hp
    rw [hexec, execute_bad_ring s part i rec c owner hat (by rw [code, hc]) (ringOf_none rec ringField)]
  · refine ⟨_, State.setSlot_slot_self .., responseRecord_length .., ?_, ?_, ?_, ?_, ?_, rfl⟩
    all_goals rw [responseRecord_eq]
    · exact toNat_ofNat_byte _ (byteAt_lt ..)
    · exact toNat_ofNat_byte _ (byteAt_lt ..)
    · exact toNat_ofNat_byte _ st.code_lt
    · rfl
    · exact padTo_eq 28 result short

/-! ### SET_MODE (R27) -/

/-- The answer of the classifier, by the mode byte of the record. -/
theorem setModeOwner_eq (r : RingId) (rec : List Byte) (s : State) : setModeOwner r rec s =
    if 1 < byteAt rec 4 then answer .badValue s
    else if byteAt rec 4 = s.mode.code then answer .done s
    else if byteAt rec 4 = 1 then answer .done { s with mode := .run }.askPass
    else if ∀ r, (s.ring r).phase = .closed then answer .done { s with mode := .config }.askPass
    else answer .ringsOpen s := by
  unfold setModeOwner
  generalize byteAt rec 4 = n
  match n with
  | 0 => cases h : s.mode <;> simp [modeOf, Mode.code, allClosed_iff]
  | 1 => cases h : s.mode <;> simp [modeOf, Mode.code]
  | n + 2 => simp [modeOf]

/-- Settles O11: the classifier's answer, written into the slot. -/
theorem setModeAnswers : Obligations.SetModeAnswers := by
  intro s part i rec hs hat code ringField
  obtain ⟨r, hr⟩ : ∃ r : RingId, byteAt rec 1 = r.val := ⟨⟨_, Nat.lt_succ_of_le ringField⟩, rfl⟩
  rw [exec_setMode s part hs, execute_eq s part i rec _ _ r hat (by rw [code]; rfl) (ringOf_some rec r hr),
    setModeOwner_eq]
  split_ifs <;> rfl

/-! ### WRITE_REGION (R30) -/

theorem flagOf_eq (n : Nat) : flagOf n = if n ≤ 1 then some (n == 1) else none := by
  match n with
  | 0 | 1 => rfl
  | n + 2 => simp [flagOf]

theorem classOf_eq (n : Nat) : classOf n =
    if n ≤ 2 then some (if n = 0 then .pass else if n = 1 then .journal else .guard) else none := by
  match n with
  | 0 | 1 | 2 => rfl
  | n + 3 => simp [classOf]

theorem addrAt_toNat (rec : List Byte) (off : Nat) : (addrAt rec off).toNat = fieldAt rec off 5 :=
  Nat.mod_eq_of_lt (fieldAt_lt rec off 5)

theorem pageAligned_addrAt (rec : List Byte) (off : Nat) :
    pageAligned (addrAt rec off) = true ↔ fieldAt rec off 5 % 4096 = 0 := by
  simp [pageAligned, addrAt_toNat]

/-- The region that a record gives, when its enable and class are codes and its addresses are aligned. -/
theorem regionOf_eq (rec : List Byte) (r : RingId) : regionOf rec r =
    if byteAt rec 5 ≤ 1 ∧ byteAt rec 6 ≤ 2 ∧ fieldAt rec 8 5 % 4096 = 0 ∧ fieldAt rec 16 5 % 4096 = 0 then
      some { enable := byteAt rec 5 == 1, base := BitVec.ofNat 40 (fieldAt rec 8 5),
             mask := BitVec.ofNat 40 (fieldAt rec 16 5),
             cls := if byteAt rec 6 = 0 then .pass else if byteAt rec 6 = 1 then .journal else .guard, ring := r }
    else none := by
  simp only [regionOf, flagOf_eq, classOf_eq, Bool.and_eq_true, pageAligned_addrAt]
  by_cases enable : byteAt rec 5 ≤ 1 <;> by_cases cls : byteAt rec 6 ≤ 2 <;> simp [enable, cls, addrAt]

/-- Settles O12: the mode, then the checks of the record, then the entry. -/
theorem writeRegionReplacesOneEntry : Obligations.WriteRegionReplacesOneEntry := by
  intro s part i rec r hs hat code ringField
  have answers (st : Status) (t : State) (h : writeRegionOwner r rec s = answer st t) :
      exec (.writeRegion part) s = .next (t.answerSlot i rec st []) := by
    rw [exec_writeRegion s part hs, execute_answer s part i rec _ _ r hat (by rw [code]; rfl) ringField st t h]
  refine ⟨fun run => answers _ _ (by simp [writeRegionOwner, run]), fun config bad => answers _ _ ?_,
    fun config k index enable cls base mask => answers _ _ ?_⟩
  · rcases Nat.lt_or_ge 11 (byteAt rec 4) with index | index
    · simp [writeRegionOwner, config, regionIndexOf_none rec index]
    · have refused : regionOf rec r = none := by rw [regionOf_eq, if_neg (by omega)]
      simp [writeRegionOwner, config, refused]
  · simp [writeRegionOwner, config, regionIndexOf_some rec k index, regionOf_eq, enable, cls, base, mask]

/-! ### CONFIGURE_RING (R2, R3) -/

theorem policyOf_eq (n : Nat) : policyOf n = if n ≤ 1 then some (if n = 0 then .refuse else .breaks) else none := by
  match n with
  | 0 | 1 => rfl
  | n + 2 => simp [policyOf]

/-- The parameters of a record pass the checks of R3. -/
def Configures (rec : List Byte) : Prop :=
  fieldAt rec 8 5 % 4096 = 0 ∧
  (fieldAt rec 4 4 = 0 ∨ (16 ≤ fieldAt rec 4 4 ∧ fieldAt rec 4 4 ≤ 262144 ∧ fieldAt rec 4 4 % 16 = 0)) ∧
  (fieldAt rec 4 4 = 0 ∨ fieldAt rec 8 5 + 128 * fieldAt rec 4 4 ≤ 2 ^ 40) ∧
  (fieldAt rec 20 4 = 0 ∨ fieldAt rec 20 4 < fieldAt rec 4 4)

theorem intervalOf_eq_some (n : Nat) (k : Fin 6) : intervalOf n = some k ↔ n = k.val := by
  simp only [intervalOf, Option.dite_none_right_eq_some, Option.some.injEq]
  constructor
  · rintro ⟨_, rfl⟩
    rfl
  · rintro rfl
    exact ⟨k.isLt, rfl⟩

/-- A record gives a configuration exactly when each of its parameters passes. -/
theorem configOf_eq_some (rec : List Byte) (c : RingConfig) : configOf rec = some c ↔
    byteAt rec 13 ≤ 1 ∧ byteAt rec 15 ≤ 1 ∧ Configures rec ∧ ∃ k : Fin 6, byteAt rec 14 = k.val ∧
      c = { base := addrAt rec 8, cells := fieldAt rec 4 4, tag := BitVec.ofNat 16 (fieldAt rec 16 2),
            policy := if byteAt rec 13 = 0 then .refuse else .breaks, highWater := fieldAt rec 20 4, interval := k,
            pin := byteAt rec 15 == 1 } := by
  simp only [configOf, Option.bind_eq_bind, Option.bind_eq_some_iff, policyOf_eq, flagOf_eq, intervalOf_eq_some,
    Option.ite_none_right_eq_some, Option.some.injEq, Configures, Bool.and_eq_true, pageAligned_addrAt, capacityLegal,
    highWaterLegal, addrAt_toNat, Bool.or_eq_true, beq_iff_eq, decide_eq_true_eq]
  constructor
  · rintro ⟨_, ⟨policy, rfl⟩, k, interval, _, ⟨pin, rfl⟩, ⟨⟨⟨base, capacity⟩, ends⟩, high⟩, rfl⟩
    exact ⟨policy, pin, ⟨base, capacity.imp_right fun h => ⟨h.1.1, h.1.2, h.2⟩, ends, high⟩, k, interval, rfl⟩
  · rintro ⟨policy, pin, ⟨base, capacity, ends, high⟩, k, interval, rfl⟩
    exact ⟨_, ⟨policy, rfl⟩, k, interval, _, ⟨pin, rfl⟩,
      ⟨⟨⟨base, capacity.imp_right fun h => ⟨⟨h.1, h.2.1⟩, h.2.2⟩⟩, ends⟩, high⟩, rfl⟩

theorem configOf_eq_none (rec : List Byte) : configOf rec = none ↔
    ¬ (byteAt rec 13 ≤ 1 ∧ byteAt rec 15 ≤ 1 ∧ Configures rec ∧ byteAt rec 14 ≤ 5) := by
  rw [Option.eq_none_iff_forall_ne_some]
  simp only [Ne, configOf_eq_some]
  constructor
  · rintro h ⟨policy, pin, passes, interval⟩
    exact h _ ⟨policy, pin, passes, ⟨_, Nat.lt_succ_of_le interval⟩, rfl, rfl⟩
  · rintro h c ⟨policy, pin, passes, k, interval, rfl⟩
    exact h ⟨policy, pin, passes, by omega⟩

/-- Settles O14: the ring state, then the checks; and the parameters byte by byte. -/
theorem configureRingChecksAndStores : Obligations.ConfigureRingChecksAndStores := by
  refine ⟨fun s part i rec r hs hat code ringField => ?_, fun rec => ⟨?_, fun c h => ?_⟩⟩
  · have answers (st : Status) (t : State) (h : configureOwner r rec s = answer st t) :
        exec (.configureRing part) s = .next (t.answerSlot i rec st []) := by
      rw [exec_configureRing s part hs, execute_answer s part i rec _ _ r hat (by rw [code]; rfl) ringField st t h]
    exact ⟨fun other => answers _ _ (by simp [configureOwner, other]),
      fun closed refused => answers _ _ (by simp [configureOwner, closed, refused]),
      fun c closed passes => answers _ _ (by simp [configureOwner, closed, passes, State.modRing, Ring.zeroed])⟩
  · rw [configOf_eq_none, Configures]
    omega
  · obtain ⟨policy, pin, passes, k, interval, rfl⟩ := (configOf_eq_some rec c).1 h
    exact ⟨addrAt_toNat rec 8, rfl, Nat.mod_eq_of_lt (fieldAt_lt rec 16 2), rfl, rfl, interval.symm, rfl⟩

/-! ### READ_RING (R21, R183) -/

/-- The fields of the ring status record in their order, each before the rest of the record. -/
theorem ringResult_eq (x : Ring) : ringResult x =
    leBytes 4 x.epoch.toNat ++ (leBytes 8 x.nextSeq.toNat ++
      (leBytes 3 (packed 0 18 x.lag + packed 18 6 x.inFlight) ++
      (leBytes 3 (packed 0 18 x.release + packed 18 3 x.phase.state.code + packed 21 3 x.phase.sub.code) ++
      (leBytes 3 (packed 0 19 x.live + packed 19 3 x.lastCause.code + packed 22 1 (flagBit x.complete)) ++
      (leBytes 2 (packed 0 15 (x.config.cells / 16) + packed 15 1 (flagBit x.highArmed)) ++
      (leBytes 2 (packed 0 13 x.timerMs + packed 13 1 (flagBit x.fullArmed)) ++
      (leBytes 2 (packed 0 9 x.touched.length) ++ (leBytes 1 x.score ++ [])))))))) := by
  simp [ringResult]

theorem packed_eq (off w v : Nat) (h : v < 2 ^ w) : packed off w v = v * 2 ^ off := by
  rw [packed, Nat.mod_eq_of_lt h, Nat.shiftLeft_eq]

theorem SubPhase.code_lt (p : SubPhase) : p.code < 2 ^ 3 := by cases p <;> decide

theorem RingState.code_lt_eight (x : RingState) : x.code < 2 ^ 3 := by cases x <;> decide

theorem Cause.code_lt_eight (c : Cause) (h : c ≠ .noJournal) : c.code < 2 ^ 3 := by
  cases c
  case noJournal => exact absurd rfl h
  all_goals decide

theorem lag_zero (x : Ring) (h : x.epoch = 0) : x.lag = 0 := if_pos h

theorem lag_open (x : Ring) (h : x.epoch ≠ 0) : x.lag = (x.nextSeq - 1 - x.frontier).toNat := if_neg h

/-- The frontier is the newest sequence number less its distance. -/
theorem frontier_of_lag (x : Ring) (h : x.epoch ≠ 0) : x.frontier = x.nextSeq - 1 - BitVec.ofNat 64 x.lag := by
  rw [lag_open x h, BitVec.ofNat_toNat, BitVec.setWidth_eq, sub_sub_cancel]

/-- The remaining time of a timer whose expiry has been taken, in whole milliseconds rounded up. -/
theorem timerMs_eq (x : Ring) (h : ∀ t, x.timer = some t → 1 ≤ t ∧ t ≤ 5000000) : x.timerMs = (match x.timer with
      | none => 0
      | some t => (t + 999) / 1000) ∧ x.timerMs < 2 ^ 13 := by
  unfold Ring.timerMs
  cases ht : x.timer with
  | none => exact ⟨rfl, by decide⟩
  | some t =>
    obtain ⟨low, high⟩ := h t ht
    refine ⟨Nat.max_eq_right (by omega), ?_⟩
    simp only
    omega

/-- The ring status record read back field by field (R183). -/
theorem ringResult_fields (x : Ring) : 
    let b := ringResult x
    (x.lag < 2 ^ 18 → x.inFlight < 2 ^ 6 → fieldAt b 12 3 = x.lag + x.inFlight * 2 ^ 18) ∧
    (x.release < 2 ^ 18 → fieldAt b 15 3 = x.release + x.phase.state.code * 2 ^ 18 + x.phase.sub.code * 2 ^ 21) ∧
    (x.live < 2 ^ 19 → x.lastCause ≠ .noJournal →
      fieldAt b 18 3 = x.live + x.lastCause.code * 2 ^ 19 + flagBit x.complete * 2 ^ 22) ∧
    (x.config.cells / 16 < 2 ^ 15 → fieldAt b 21 2 = x.config.cells / 16 + flagBit x.highArmed * 2 ^ 15) ∧
    (x.timerMs < 2 ^ 13 → fieldAt b 23 2 = x.timerMs + flagBit x.fullArmed * 2 ^ 13) ∧
    (x.touched.length < 2 ^ 9 → fieldAt b 25 2 = x.touched.length) ∧
    (x.score < 256 → byteAt b 27 = x.score) := by
  have state := x.phase.state.code_lt_eight
  have sub := x.phase.sub.code_lt
  have complete := flagBit_le x.complete
  have high := flagBit_le x.highArmed
  have full := flagBit_le x.fullArmed
  refine ⟨fun lag inFlight => ?_, fun release => ?_, fun live cause => ?_, fun cells => ?_, fun timer => ?_,
    fun touched => ?_, fun score => ?_⟩
  all_goals rw [ringResult_eq]
  · show fieldAt _ (4 + (8 + 0)) 3 = _
    simp only [fieldAt_leBytes_append_right]
    rw [packed_eq 0 18 _ lag, packed_eq 18 6 _ inFlight, fieldAt_leBytes_append _ _ _ (by omega), pow_zero, mul_one]
  · show fieldAt _ (4 + (8 + (3 + 0))) 3 = _
    simp only [fieldAt_leBytes_append_right]
    rw [packed_eq 0 18 _ release, packed_eq 18 3 _ state, packed_eq 21 3 _ sub,
      fieldAt_leBytes_append _ _ _ (by omega), pow_zero, mul_one]
  · have cause := x.lastCause.code_lt_eight cause
    show fieldAt _ (4 + (8 + (3 + (3 + 0)))) 3 = _
    simp only [fieldAt_leBytes_append_right]
    rw [packed_eq 0 19 _ live, packed_eq 19 3 _ cause, packed_eq 22 1 _ (by omega),
      fieldAt_leBytes_append _ _ _ (by omega), pow_zero, mul_one]
  · show fieldAt _ (4 + (8 + (3 + (3 + (3 + 0))))) 2 = _
    simp only [fieldAt_leBytes_append_right]
    rw [packed_eq 0 15 _ cells, packed_eq 15 1 _ (by omega), fieldAt_leBytes_append _ _ _ (by omega), pow_zero, mul_one]
  · show fieldAt _ (4 + (8 + (3 + (3 + (3 + (2 + 0)))))) 2 = _
    simp only [fieldAt_leBytes_append_right]
    rw [packed_eq 0 13 _ timer, packed_eq 13 1 _ (by omega), fieldAt_leBytes_append _ _ _ (by omega), pow_zero, mul_one]
  · show fieldAt _ (4 + (8 + (3 + (3 + (3 + (2 + (2 + 0))))))) 2 = _
    simp only [fieldAt_leBytes_append_right]
    rw [packed_eq 0 9 _ touched, fieldAt_leBytes_append _ _ _ (by omega), pow_zero, mul_one]
  · iterate 8 rw [byteAt_append_right _ _ _ (by simp), leBytes_length]
    exact byteAt_leBytes_append _ _ score

/-- Settles O15: the answer, the record's groups taken apart, and the tables of codes. -/
theorem readRingReportsTheRing : Obligations.ReadRingReportsTheRing := by
  refine ⟨fun s part i rec r hs hat code ringField => ?_,
    fun x lag inFlight release live cause aligned cells taken touched score => ?_, by decide, by decide, rfl, rfl⟩
  · rw [exec_readRing s part hs, execute_eq s part i rec _ _ r hat (by rw [code]; rfl) (ringOf_some rec r ringField)]
    rfl
  · have near : x.lag < 2 ^ 18 := by
      by_cases h : x.epoch = 0
      · rw [lag_zero x h]
        decide
      · rw [lag_open x h]
        exact lag h
    obtain ⟨timerMs, timer⟩ := timerMs_eq x taken
    obtain ⟨counts, positions, lives, capacity, timers, occupancy, scores⟩ := ringResult_fields x
    have state := x.phase.state.code_lt_eight
    have sub := x.phase.sub.code_lt
    have lastCause := x.lastCause.code_lt_eight cause
    dsimp only
    rw [counts near inFlight, positions release, lives live cause, capacity (by omega), timers timer,
      occupancy (by omega), scores (by omega)]
    have distance : (x.lag + x.inFlight * 2 ^ 18) % 2 ^ 18 = x.lag := by omega
    refine ⟨ringResult_length x, ?_, ?_, fun h => ?_, fun h => ?_, by omega, by omega, by omega, by omega, by omega,
      by omega, by omega, by omega, by omega, (by omega : _ = x.timerMs).trans timerMs, by omega, rfl, rfl⟩
    · rw [ringResult_eq]
      exact fieldAt_leBytes_append _ _ _ x.epoch.isLt
    · rw [ringResult_eq]
      exact (fieldAt_leBytes_append_right 4 _ _ 0 8).trans (fieldAt_leBytes_append _ _ _ x.nextSeq.isLt)
    · rw [distance, lag_zero x h]
    · rw [distance]
      exact frontier_of_lag x h

/-! ### SET_INTERVAL (R89, R91) -/

/-- Settles O16: the code is an interval code or is refused. -/
theorem setIntervalRestartsTheTimer : Obligations.SetIntervalRestartsTheTimer := by
  refine ⟨fun s part i rec r hs hat code ringField => ?_, rfl, rfl, rfl, rfl, rfl, rfl⟩
  have answers (st : Status) (t : State) (h : setIntervalOwner r rec s = answer st t) :
      exec (.setInterval part) s = .next (t.answerSlot i rec st []) := by
    rw [exec_setInterval s part hs, execute_answer s part i rec _ _ r hat (by rw [code]; rfl) ringField st t h]
  refine ⟨fun above => answers _ _ ?_, fun k h => answers _ _ ?_⟩
  · simp [setIntervalOwner, intervalOf, Nat.not_lt.2 above]
  · simp [setIntervalOwner, (intervalOf_eq_some _ k).2 h, State.modRing]

/-! ### The answers of the ring operations (R87, R105, R127, R137, R147) -/

section
variable (r : RingId) (rec : List Byte) (s : State)

theorem checkpointOwner_eq : checkpointOwner r rec s = match (s.ring r).phase.state with
    | .active => answer .started (s.startCheckpoint r .command)
    | .broken => if 160 ≤ (s.ring r).score then answer .scoreHigh s else answer .started (s.startCheckpoint r .command)
    | .closed => answer .badState s
    | .opening | .checkpointing | .rolling | .closing => answer .busy s := by
  unfold checkpointOwner
  cases (s.ring r).phase.state
  case broken => simp only [← Nat.not_lt, Config.failedScore, ite_not]
  all_goals rfl

theorem closeOwner_eq : closeOwner r rec s = match (s.ring r).phase.state with
    | .active => answer .started (s.startClose r)
    | .broken => if 160 ≤ (s.ring r).score then answer .scoreHigh s else answer .started (s.startClose r)
    | .closed => answer .badState s
    | .opening | .checkpointing | .rolling | .closing => answer .busy s := by
  unfold closeOwner
  cases (s.ring r).phase.state
  case broken => simp only [← Nat.not_lt, Config.failedScore, ite_not]
  all_goals rfl

theorem openModeOf_eq (n : Nat) :
    openModeOf n = if n = 0 ∨ 2 < n then none else some (if n = 1 then .fresh else .recover) := by
  match n with
  | 0 | 1 | 2 => rfl
  | n + 3 => simp [openModeOf]

theorem openRefusal_eq : openRefusal s r =
    if (s.ring r).phase = .active ∨ (s.ring r).phase = .broken then some .badState
    else if (s.ring r).phase ≠ .closed then some .busy
    else if s.mode = .config then some .notRun
    else if (s.ring r).config.cells = 0 then some .badValue
    else if 160 ≤ (s.ring r).score then some .scoreHigh
    else none := by
  unfold openRefusal
  cases h : (s.ring r).phase <;> simp [h, Phase.state, Config.failedScore]

theorem openOwner_eq : openOwner r rec s =
    if byteAt rec 4 = 0 ∨ 2 < byteAt rec 4 then answer .badValue s
    else if (s.ring r).phase = .active ∨ (s.ring r).phase = .broken then answer .badState s
    else if (s.ring r).phase ≠ .closed then answer .busy s
    else if s.mode = .config then answer .notRun s
    else if (s.ring r).config.cells = 0 then answer .badValue s
    else if 160 ≤ (s.ring r).score then answer .scoreHigh s
    else answer .started (s.startOpen r (if byteAt rec 4 = 1 then .fresh else .recover)) := by
  rw [openOwner, openModeOf_eq, openRefusal_eq]
  split_ifs <;> rfl

end

/-- Settles O17: each owner's answer, written into the slot. -/
theorem ringOperationAnswers : Obligations.RingOperationAnswers := by
  intro s part i rec r hs hat ringField
  have ring := ringOf_some rec r ringField
  refine ⟨fun code => ?_, fun code => ?_, fun code => ?_, fun code => ?_⟩
  · rw [exec_checkpoint s part hs, execute_eq s part i rec _ _ r hat (by rw [code]; rfl) ring, checkpointOwner_eq]
    cases (s.ring r).phase.state
    case broken => simp only; split_ifs <;> rfl
    all_goals rfl
  · rw [exec_rollback s part hs, execute_eq s part i rec _ _ r hat (by rw [code]; rfl) ring, rollbackOwner]
    cases (s.ring r).phase.state <;> rfl
  · rw [exec_closeRing s part hs, execute_eq s part i rec _ _ r hat (by rw [code]; rfl) ring, closeOwner_eq]
    cases (s.ring r).phase.state
    case broken => simp only; split_ifs <;> rfl
    all_goals rfl
  · rw [exec_openRing s part hs, execute_eq s part i rec _ _ r hat (by rw [code]; rfl) ring, openOwner_eq]
    split_ifs <;> rfl

end Sys2Proof.Machine

/-! The drain test and the starts of the ring operations (chapters 6, 7 and 8): what each does when its drain ends at once,
and while it waits; and the triggers of a checkpoint. -/

namespace Sys2Proof.Machine

open Sys2Proof.Safety

/-! ### The condition that ends a drain (R58) -/

theorem restores_iff (o : Owner) (r : RingId) :
    o.restores r = true ↔ o = .restoreHeader r ∨ o = .restoreImage r ∨ o = .restoreWrite r := by
  cases o <;> simp [Owner.restores]

theorem vec_any_eq_false {α : Type} {n : Nat} (v : Vector α n) (p : α → Bool) :
    v.toList.any p = false ↔ ∀ i, p (v.get i) = false := by
  rw [vec_toList_eq_ofFn, List.any_eq_false]
  simp [List.mem_ofFn]

theorem drained_iff (s : State) (r : RingId) : s.drained r = true ↔
    (s.ring r).inFlight = 0 ∧ (s.ring r).steered = [] ∧ (∀ a ∈ s.service, a.owner.restores r = false) ∧
      ∀ t o n, s.ownTag t = .inUse (some o) n → o.restores r = false := by
  have tags : (s.ownTags.toList.any fun
      | .inUse (some o) _ => o.restores r
      | _ => false) = false ↔ ∀ t o n, s.ownTag t = .inUse (some o) n → o.restores r = false := by
    rw [vec_any_eq_false]
    refine forall_congr' fun t => ?_
    show (match s.ownTag t with
      | .inUse (some o) _ => o.restores r
      | _ => false) = false ↔ _
    cases s.ownTag t with
    | inUse o n => cases o <;> simp
    | _ => simp
  have service : s.service.any (fun a => a.owner.restores r) = false ↔ ∀ a ∈ s.service, a.owner.restores r = false := by
    simp
  rw [State.drained, State.noneOutstanding, Bool.and_eq_true, Bool.and_eq_true, Bool.and_eq_true, beq_iff_eq,
    List.isEmpty_iff, Bool.not_eq_true', Bool.not_eq_true', service, and_assoc]
  exact and_congr_right fun _ => and_congr_right fun _ => and_congr_right fun _ => tags

/-- Settles O18: the condition field by field, and the act of each operation. -/
theorem drainTest : Obligations.DrainTest := by
  intro s r
  refine ⟨?_, drainTest_eq_self s r, drainTest_checkpointing s r, drainTest_rolling s r, drainTest_closing s r,
    drainTest_fresh s r, drainTest_recover s r⟩
  simp only [drained_iff, ← Bool.not_eq_true, restores_iff, not_or]
  refine and_congr_right fun _ => and_congr_right fun _ => and_congr_right fun _ => ?_
  constructor
  · intro h o n
    refine ⟨fun ht => ?_, fun ht => ?_, fun ht => ?_⟩
    · exact (h o _ n ht).1 rfl
    · exact (h o _ n ht).2.1 rfl
    · exact (h o _ n ht).2.2 rfl
  · rintro h t o n ht
    refine ⟨?_, ?_, ?_⟩ <;> rintro rfl
    · exact (h t n).1 ht
    · exact (h t n).2.1 ht
    · exact (h t n).2.2 ht

/-! ### The marks of a checkpoint and of a rollback (R97, R102, R114, R119) -/

section
variable (s : State) (r : RingId)

theorem checkpointMark_exhausted (h : (s.ring r).nextSeq = 0) : s.checkpointMark r = s.breakRing r .sequence := by
  simp [State.checkpointMark, (exhausted_iff _).2 h]

theorem checkpointMark_reserves (h : (s.ring r).nextSeq ≠ 0) : s.checkpointMark r =
    let x := s.ring r
    let m : Mark :=
      { cell := x.produce, seq := x.nextSeq, epoch := epochAfter x.epoch,
        reason := .checkpoint (x.reason.getD .command), released := x.live - 1 }
    { s.setRing r { x with
        phase := .checkpointingMark, mark := some m, produce := (x.produce + 1) % x.config.cells, live := x.live + 1,
        nextSeq := x.nextSeq + 1 } with
      journal := s.journal ++ [headerWrite (.checkpointMark r) x.config x.produce (markHeader r x.config.tag m)] } := by
  simp only [State.checkpointMark, mt (exhausted_iff _).1 h, Ring.reserveMark, State.requestMark, State.setRing_ring_self]
  rfl

theorem rollbackMark_exhausted (h : (s.ring r).nextSeq = 0) : s.rollbackMark r = s.breakRing r .sequence := by
  simp [State.rollbackMark, (exhausted_iff _).2 h]

theorem rollbackMark_reserves (h : (s.ring r).nextSeq ≠ 0) : s.rollbackMark r =
    let x := s.ring r
    let m : Mark :=
      { cell := x.produce, seq := x.nextSeq, epoch := epochAfter x.epoch, reason := .rollback, released := x.live - 1 }
    { s.setRing r { x with
        phase := .rollingMark, mark := some m, produce := (x.produce + 1) % x.config.cells, live := x.live + 1,
        nextSeq := x.nextSeq + 1, cursor := none, expected := none } with
      journal := s.journal ++ [headerWrite (.rollbackMark r) x.config x.produce (markHeader r x.config.tag m)] } := by
  simp only [State.rollbackMark, mt (exhausted_iff _).1 h, Ring.reserveMark, State.requestMark, State.setRing_ring_self]
  rfl

end

/-! ### The start of a checkpoint (R88, R97, R102) -/

/-- Settles O19: the drain that waits, the exhausted ring, and the mark reserved at once. -/
theorem checkpointStart : Obligations.CheckpointStart := by
  intro s r reason
  let x := { s.ring r with phase := .checkpointingDrain, reason := some reason, markRetry := false, timer := none }
  have start : s.startCheckpoint r reason = ((s.setRing r x).askPass).drainTest r := rfl
  have ring : ((s.setRing r x).askPass).ring r = x := State.setRing_ring_self ..
  have same : ((s.setRing r x).askPass).drained r = s.drained r :=
    drained_congr _ _ r (by rw [ring]) (by rw [ring]) rfl rfl
  refine ⟨fun waits => ?_, fun ends exhausted => ?_, fun ends fresh => ?_⟩
  · rw [start, drainTest_undrained _ r (same.trans waits)]
  · rw [start, drainTest_checkpointing _ r (same.trans ends) (by rw [ring]), checkpointMark_exhausted _ r (by rwa [ring])]
  · rw [start, drainTest_checkpointing _ r (same.trans ends) (by rw [ring]), checkpointMark_reserves _ r (by rwa [ring])]
    simp only [ring, setRing_askPass, State.setRing_setRing, epochAfter_eq]
    rfl

/-! ### The start of a rollback and of its restore (R106, R107, R108, R113) -/

section
variable (s : State) (r : RingId)

/-- A restore whose newest record is in a cell behind the release cell reads that record's header. -/
theorem restoreStart_reads (h : (s.ring r).config.prevCell (s.ring r).produce ≠ (s.ring r).release) : s.restoreStart r =
    let x := s.ring r
    { s.setRing r { x with
        phase := .rollingRestore, cursor := some (x.config.prevCell x.produce), expected := some (x.nextSeq - 1) } with
      service := s.service ++ [headerRead (.restoreHeader r) x.config (x.config.prevCell x.produce)] } := by
  simp only [State.restoreStart, State.restoreNext, State.modRing_eq, State.setRing_ring_self, h, if_false]
  rfl

/-- An epoch without a pre-image has nothing to restore: the rollback's mark follows at once (R113). -/
theorem restoreStart_ends (h : (s.ring r).config.prevCell (s.ring r).produce = (s.ring r).release)
    (unsteered : (s.ring r).steered = []) : s.restoreStart r =
    let x := s.ring r
    (s.setRing r { x with
      phase := .rollingRestore, cursor := some (x.config.prevCell x.produce),
      expected := some (x.nextSeq - 1) }).rollbackMark r := by
  simp [State.restoreStart, State.restoreNext, State.restoreEndTest, State.modRing_eq, h, unsteered]

end

/-- Settles O21: the drain that waits, the restore's first read, and the mark of an epoch without pre-images. -/
theorem rollbackStart : Obligations.RollbackStart := by
  intro s r
  let x := { s.ring r with
    phase := .rollingDrain, cursor := none, expected := none, restored := 0, restoreRetry := false, markRetry := false,
    timer := none }
  let u := ((s.setRing r x).retryHeld r).askPass
  have start : s.startRollback r = u.drainTest r := rfl
  have ring : u.ring r = x := (retryHeld_ring _ r r).trans (State.setRing_ring_self ..)
  have set (y : Ring) : u.setRing r y = ((s.setRing r y).retryHeld r).askPass := by
    rw [setRing_askPass, ← setRing_retryHeld, State.setRing_setRing]
  have held : (s.setRing r x).retryHeld r = _ := retryHeld_eq (s.setRing r x) r
  have service : u.service = s.service := by show ((s.setRing r x).retryHeld r).service = _; rw [held]; rfl
  have journal : u.journal = s.journal := by show ((s.setRing r x).retryHeld r).journal = _; rw [held]; rfl
  have ownTags : u.ownTags = s.ownTags := by show ((s.setRing r x).retryHeld r).ownTags = _; rw [held]; rfl
  have same : u.drained r = s.drained r := drained_congr _ _ r (by rw [ring]) (by rw [ring]) service ownTags
  have test (ends : s.drained r = true) : u.drainTest r = u.restoreStart r :=
    drainTest_rolling _ r (same.trans ends) (by rw [ring])
  have unsteered (ends : s.drained r = true) : x.steered = [] := ((drained_iff s r).1 ends).2.1
  refine ⟨fun waits => ?_, fun ends reads => ?_, fun ends empty exhausted => ?_, fun ends empty fresh => ?_⟩
  · rw [start, drainTest_undrained _ r (same.trans waits)]
  · rw [start, test ends, restoreStart_reads u r (by rw [ring]; exact reads)]
    simp only [ring, set, service]
    rfl
  · rw [start, test ends, restoreStart_ends u r (by rw [ring]; exact empty) (by rw [ring]; exact unsteered ends),
      rollbackMark_exhausted _ r (by rw [State.setRing_ring_self, ring]; exact exhausted)]
    simp only [ring, set]
    rfl
  · rw [start, test ends, restoreStart_ends u r (by rw [ring]; exact empty) (by rw [ring]; exact unsteered ends),
      rollbackMark_reserves _ r (by rw [State.setRing_ring_self, ring]; exact fresh)]
    simp only [State.setRing_ring_self, State.setRing_setRing, State.setRing_journal]
    simp only [ring, set, journal, epochAfter_eq]
    rfl

/-! ### Held entries of a ring that enters OPENING or ROLLING (R82) -/

/-- Settles O22: the answers in the order taken are those of the entries removed. -/
theorem heldEntriesOfTheRingGetRetry : Obligations.HeldEntriesOfTheRingGetRetry := by
  intro s r
  refine ⟨_, (s.freeOrder_perm (s.hold.filter fun e => e.belongsTo r)).map _, ?_, retryHeld_hold s r, retryHeld_eq s r⟩
  simp only [State.retryHeld, Laws.foldl_respond_eq]
  rfl

/-! ### The start of an open (R128, R130, R132) -/

/-- The mark of a FRESH open at cell 0 (R130). -/
theorem freshMark_eq (s : State) (r : RingId) : s.freshMark r =
    let x := s.ring r
    let m : Mark := { cell := 0, seq := 1, epoch := 1, reason := .fresh, released := 0 }
    { s.setRing r { x with
        phase := .openingMark, mark := some m, release := 0, produce := 1 % x.config.cells, live := 1, nextSeq := 2 } with
      journal := s.journal ++ [headerWrite (.freshMark r) x.config 0 (markHeader r x.config.tag m)] } := by
  simp only [State.freshMark, State.modRing_eq, Ring.reserveMark, State.requestMark, State.setRing_ring_self]
  rfl

/-- The next header read of a search with cells and reads left (R132). -/
theorem searchNext_requests (s : State) (r : RingId) (cells : (s.ring r).searchCell < (s.ring r).config.cells)
    (reads : (s.ring r).scanReads < 4) : s.searchNext r =
    let x := s.ring r
    { s.setRing r { x with searchCell := x.searchCell + 1, scanReads := x.scanReads + 1 } with
      service := s.service ++ [headerRead (.searchHeader r x.searchCell) x.config x.searchCell] } := by
  simp only [State.searchNext, cells, Config.searchReads, reads, decide_true, Bool.and_self, if_true]
  rfl

/-- One of the reads with which a search begins, in the form in which the reads before it leave the state. -/
theorem searchNext_setRing (s : State) (r : RingId) (x : Ring) (accesses : List Access) (cells : x.searchCell < x.config.cells)
    (reads : x.scanReads < 4) : ({ s.setRing r x with service := accesses } : State).searchNext r =
    { s.setRing r { x with searchCell := x.searchCell + 1, scanReads := x.scanReads + 1 } with
      service := accesses ++ [headerRead (.searchHeader r x.searchCell) x.config x.searchCell] } := by
  have ring : ({ s.setRing r x with service := accesses } : State).ring r = x := State.setRing_ring_self ..
  rw [searchNext_requests _ r (by rwa [ring]) (by rwa [ring]), ring]
  have set (y : Ring) : ({ s.setRing r x with service := accesses } : State).setRing r y =
      { s.setRing r y with service := accesses } := by
    rw [← State.setRing_setRing s r x y]
    rfl
  simp only [set]

/-- A search of a ring of four cells or more begins with the header reads of cells 0 to 3 (R132). -/
theorem searchStart_eq (s : State) (r : RingId) (first : (s.ring r).searchCell = 0) (none : (s.ring r).scanReads = 0)
    (cells : 4 ≤ (s.ring r).config.cells) : s.searchStart r =
    let x := s.ring r
    { s.setRing r { x with phase := .openingScan, scanPart := some .search, searchCell := 4, scanReads := 4 } with
      service := s.service ++ [0, 1, 2, 3].map fun cell => headerRead (.searchHeader r cell) x.config cell } := by
  have start : s.modRing r (fun x => { x with phase := .openingScan, scanPart := some .search }) =
      { s.setRing r { s.ring r with phase := .openingScan, scanPart := some .search } with service := s.service } := rfl
  rw [State.searchStart, start, searchNext_setRing, searchNext_setRing, searchNext_setRing, searchNext_setRing]
  · simp [first, none]
  all_goals simp only [first, none]; omega

/-- Settles O23: the drain that waits, the FRESH mark, and the first reads of the search. -/
theorem openStart : Obligations.OpenStart := by
  intro s r mode
  let x := { s.ring r with
    phase := .openingDrain, release := 0, produce := 0, live := 0, nextSeq := 0, epoch := 0, frontier := 0,
    openMode := some mode, scanPart := none, searchCell := 0, scanReads := 0, newest := none, walkCell := none,
    walkCount := 0, walkHeader := none, markRetry := false, outstanding := [] }
  let u := ((s.setRing r x).retryHeld r).askPass
  have start : s.startOpen r mode = u.drainTest r := rfl
  have ring : u.ring r = x := (retryHeld_ring _ r r).trans (State.setRing_ring_self ..)
  have set (y : Ring) : u.setRing r y = ((s.setRing r y).retryHeld r).askPass := by
    rw [setRing_askPass, ← setRing_retryHeld, State.setRing_setRing]
  have held : (s.setRing r x).retryHeld r = _ := retryHeld_eq (s.setRing r x) r
  have service : u.service = s.service := by show ((s.setRing r x).retryHeld r).service = _; rw [held]; rfl
  have journal : u.journal = s.journal := by show ((s.setRing r x).retryHeld r).journal = _; rw [held]; rfl
  have ownTags : u.ownTags = s.ownTags := by show ((s.setRing r x).retryHeld r).ownTags = _; rw [held]; rfl
  have same : u.drained r = s.drained r := drained_congr _ _ r (by rw [ring]) (by rw [ring]) service ownTags
  refine ⟨fun waits => ?_, fun ends fresh => ?_, fun ends recover cells => ?_⟩
  · rw [start, drainTest_undrained _ r (same.trans waits)]
  · rw [start, drainTest_fresh _ r (same.trans ends) (by rw [ring]) (by rw [ring]; exact congrArg some fresh), freshMark_eq]
    simp only [ring, set, journal]
    rfl
  · have enough : 4 ≤ x.config.cells := le_trans (by decide) cells
    rw [start, drainTest_recover _ r (same.trans ends) (by rw [ring]) (by rw [ring]; exact congrArg some recover),
      searchStart_eq u r (by rw [ring]) (by rw [ring]) (by rwa [ring])]
    simp only [ring, set, service]
    rfl

/-! ### The start and the completion of a close (R138, R139) -/

/-- Settles O24: the drain that waits, and the completion at once. -/
theorem closeStartAndCompletion : Obligations.CloseStartAndCompletion := by
  intro s r
  let x := { s.ring r with phase := .closingDrain, timer := none }
  have start : s.startClose r = ((s.setRing r x).askPass).drainTest r := rfl
  have ring : ((s.setRing r x).askPass).ring r = x := State.setRing_ring_self ..
  have same : ((s.setRing r x).askPass).drained r = s.drained r :=
    drained_congr _ _ r (by rw [ring]) (by rw [ring]) rfl rfl
  refine ⟨fun waits => ?_, fun ends => ?_⟩
  · rw [start, drainTest_undrained _ r (same.trans waits)]
  · rw [start, drainTest_closing _ r (same.trans ends) (by rw [ring])]
    simp only [State.closeComplete, State.modRing_eq, ring, setRing_askPass, State.setRing_setRing]
    rfl

end Sys2Proof.Machine

/-! The triggers of a checkpoint (R90, R92, R165): the timer, the edge of CKPT, and the passing of time. -/

namespace Sys2Proof.Machine

open Sys2Proof.Safety

section
variable (s : State)

/-! ### The timer (R90) -/

theorem takeExpiry_due (r : RingId) (active : (s.ring r).phase = .active) (due : (s.ring r).timer = some 0) :
    s.takeExpiry r = s.startCheckpoint r .timer := by
  simp [State.takeExpiry, active, due]

theorem takeExpiry_early (r : RingId) (h : (s.ring r).phase ≠ .active ∨ (s.ring r).timer ≠ some 0) :
    s.takeExpiry r = s := by
  unfold State.takeExpiry
  split
  · next active due => exact absurd h (by simp [active, due])
  · rfl

/-! ### The edge (R92) -/

/-- Checkpoints that start in some rings leave the pin and the other rings alone. -/
theorem startCheckpoints_only (rs : List RingId) (reason : CkptReason) :
    let t := rs.foldl (fun u r => u.startCheckpoint r reason) s
    t.inReset = s.inReset ∧ t.ckptLevel = s.ckptLevel ∧ t.ckptSampled = s.ckptSampled ∧
      ∀ q, q ∉ rs → t.ring q = s.ring q := by
  induction rs generalizing s with
  | nil => exact ⟨rfl, rfl, rfl, fun _ _ => rfl⟩
  | cons r rs ih =>
    obtain ⟨inReset, level, sampled, -, -, -, -, -, -, -, -, -, -, -, -, -, rings⟩ := Laws.startCheckpoint_only r s reason
    obtain ⟨inReset', level', sampled', rings'⟩ := ih (s.startCheckpoint r reason)
    refine ⟨inReset'.trans inReset, level'.trans level, sampled'.trans sampled, fun q hq => ?_⟩
    obtain ⟨ne, other⟩ := not_or.1 (mt List.mem_cons.2 hq)
    exact (rings' q other).trans (rings q ne)

theorem takeEdge_only : s.takeEdge.inReset = s.inReset ∧ s.takeEdge.ckptLevel = s.ckptLevel ∧
    s.takeEdge.ckptSampled = s.ckptSampled ∧ ∀ q, q ∉ s.edgeRings → s.takeEdge.ring q = s.ring q := by
  obtain ⟨inReset, level, sampled, rings⟩ :=
    startCheckpoints_only (s.afterOrder s.edgeRings) (s.freeOrder s.edgeRings) .pin
  exact ⟨inReset, level, sampled, fun q hq => rings q (mt (s.freeOrder_perm s.edgeRings).mem_iff.1 hq)⟩

theorem not_mem_edgeRings (q : RingId) (h : (s.ring q).config.pin = false ∨ (s.ring q).phase ≠ .active) :
    q ∉ s.edgeRings := by
  simp only [State.edgeRings, List.mem_filter, Bool.and_eq_true, beq_iff_eq]
  rintro ⟨-, pin, active⟩
  rcases h with h | h
  · rw [pin] at h
    cases h
  · exact h active

/-! ### One sample of CKPT (R165) -/

theorem sampleTick_eq (level : Bool) : s.sampleTick level =
    let sampled := { s.passTime 1 with ckptLevel := level }
    if s.ckptSampled = true ∧ s.ckptLevel = false ∧ level = true then sampled.takeEdge else sampled := by
  simp only [State.sampleTick, Bool.and_eq_true, Bool.not_eq_true', and_assoc]

theorem sampleTick_pin (level : Bool) : (s.sampleTick level).inReset = s.inReset ∧
    (s.sampleTick level).ckptSampled = true ∧ (s.sampleTick level).ckptLevel = level := by
  have ticked : (s.passTime 1).ckptSampled = true := by simp [State.passTime]
  rw [sampleTick_eq]
  dsimp only
  split
  · obtain ⟨inReset, level', sampled, -⟩ := takeEdge_only { s.passTime 1 with ckptLevel := level }
    exact ⟨inReset, sampled.trans ticked, level'⟩
  · exact ⟨rfl, ticked, rfl⟩

end

/-- Settles O20: the timer, the edge, the samples, and the passing of time. -/
theorem timerAndPinTriggers : Obligations.TimerAndPinTriggers := by
  intro s hs
  have expiry (r : RingId) (us : Nat) : exec (.timerExpiry r us) s = .next ((s.passTime us).takeExpiry r) :=
    running_eq s _ hs
  have edge (u : State) (hu : u.inReset = false) (levels : List Bool) :
      exec (.ckptEdge levels) u = .next (levels.foldl State.sampleTick u) := running_eq u _ hu
  refine ⟨fun r us left active timer due => ?_, fun r us h => ?_, ⟨_, _, _, s.freeOrder_perm s.edgeRings, rfl,
      fun q hq => (takeEdge_only s).2.2.2 q (not_mem_edgeRings s q hq)⟩, edge s hs [], fun levels => ⟨_, edge s hs levels⟩,
    ?_, fun level levels => ⟨s.sampleTick level, sampleTick_eq s level, ?_⟩,
    fun us => ⟨fun r => State.passTime_ring .., fun o => ?_, rfl⟩, fun idle => ?_⟩
  · rw [expiry, takeExpiry_due]
    · rw [State.passTime_ring]
      exact active
    · rw [State.passTime_ring, timer]
      exact congrArg some (Nat.sub_eq_zero_of_le due)
  · rw [expiry, takeExpiry_early]
    rw [State.passTime_ring]
    rcases h with other | stopped | ⟨left, timer, early⟩
    · exact .inl other
    · exact .inr (by simp [stopped])
    · exact .inr (by simpa [timer] using Nat.sub_ne_zero_of_lt early)
  · rw [edge s hs, List.foldl_cons, List.foldl_cons, List.foldl_nil, sampleTick_eq s false, if_neg (by simp), sampleTick_eq,
      if_pos (by simp [State.passTime])]
  · obtain ⟨inReset, sampled, level'⟩ := sampleTick_pin s level
    refine ⟨inReset.trans hs, sampled, level', ?_⟩
    rw [edge s hs, edge _ (inReset.trans hs), List.foldl_cons]
  · exact State.passTime_ownTag ..
  · simp [step, idle, State.tick, hs]

end Sys2Proof.Machine

/-! Ring resets, breaks, failed opens and the fault score (chapters 8 and 9): what each makes of the ring, its contexts, its
accesses and the requests it releases. -/

namespace Sys2Proof.Machine

open Sys2Proof.Safety

/-! ### Requests decided in one act (R159) -/

/-- A decided request waits only while the forward buffer has no room. -/
def State.WaitsFull (s : State) : Prop := s.decided ≠ [] → 4 ≤ s.forward.length

theorem State.WaitsFull.decide {s : State} (h : s.WaitsFull) (d : Decided) : (s.decide d).WaitsFull ∧
    (s.decide d).forward ++ (s.decide d).decided.map (·.req) = s.forward ++ s.decided.map (·.req) ++ [d.req] := by
  unfold State.decide State.WaitsFull
  split
  · next room =>
    have none : s.decided = [] := by
      by_contra some
      exact absurd (h some) (Nat.not_le.2 room)
    simp [none]
  · next full => exact ⟨fun _ => Nat.not_lt.1 full, by simp⟩

theorem foldl_decide_queue (ds : List Decided) : ∀ s : State, s.WaitsFull →
    (ds.foldl State.decide s).forward ++ (ds.foldl State.decide s).decided.map (·.req) =
      s.forward ++ s.decided.map (·.req) ++ ds.map (·.req) := by
  induction ds with
  | nil => intro s _; simp
  | cons d ds ih =>
    intro s h
    obtain ⟨waits, queue⟩ := h.decide d
    rw [List.foldl_cons, ih _ waits, queue]
    simp

/-- Requests decided in one act go behind those decided before, in a free order. -/
theorem decideAll_queue (s : State) (ds : List Decided) (h : s.decided ≠ [] → s.forward.length = 4) :
    ∃ moved : List HostRequest, moved.Perm (ds.map (·.req)) ∧
      (s.decideAll ds).forward ++ (s.decideAll ds).decided.map (·.req) =
        s.forward ++ s.decided.map (·.req) ++ moved :=
  ⟨_, (s.freeOrder_perm ds).map _, foldl_decide_queue _ (s.afterOrder ds) fun some => (h some).ge⟩

/-- The host writes of the contexts that satisfy a test. -/
theorem writesOf_req (s : State) (p : Context → Bool) : (s.writesOf p).map (·.req) =
    (List.finRange 8).filterMap fun c => match s.ctx c with
      | some y => if p y then some y.req else none
      | none => none := by
  rw [State.writesOf, List.map_filterMap]
  refine List.filterMap_congr fun c _ => ?_
  cases s.ctx c with
  | none => rfl
  | some y => cases h : p y <;> simp [h]

/-! ### Accesses withdrawn and orphaned (R62, R162) -/

section
variable (s : State) (p : Owner → Bool)

theorem withdraw_mem (a : Access) : a ∈ (s.withdraw p).journal ++ (s.withdraw p).service ↔
    a ∈ s.journal ++ s.service ∧ p a.owner = false := by
  simp only [State.withdraw, List.mem_append, List.mem_filter, Bool.not_eq_true']
  exact or_and_right.symm

theorem orphan_ownTag (o : OwnTag) : (s.orphan p).ownTag o = match s.ownTag o with
    | .inUse (some owner) n => if p owner = true then .inUse none n else .inUse (some owner) n
    | z => z :=
  mapVec_get ..

end

theorem ownedBy_eq (s : State) (p : Context → Bool) (o : Owner) : s.ownedBy p o = (o.ctx?.bind s.ctx).any p := by
  unfold State.ownedBy
  cases o.ctx? <;> rfl

theorem ownedBy_eq_false (s : State) (p : Context → Bool) (o : Owner) :
    s.ownedBy p o = false ↔ ∀ c y, o.ctx? = some c → s.ctx c = some y → p y = false := by
  rw [ownedBy_eq]
  cases o.ctx? with
  | none => simp
  | some c =>
    rw [Option.bind_some]
    constructor
    · rintro unowned _ y ⟨⟩ hy
      simpa [hy] using unowned
    · intro unowned
      cases hy : s.ctx c with
      | none => rfl
      | some y => exact unowned c y rfl hy

theorem askPass_held (s : State) (h : s.hold ≠ []) : s.askPass.passAsked = true := by
  simp [State.askPass, List.isEmpty_eq_false_iff.2 h]

/-! ### RESET_RING (R24, R61, R62, R141) -/

theorem resetReleases_iff (y : Context) (r : RingId) :
    y.resetReleases r = true ↔ y.ring = some r ∧ y.phase ≠ .forwarded ∧ y.phase ≠ .answering := by
  unfold Context.resetReleases
  cases y.phase <;> simp

/-- A context of the ring is detached, and released unless it has forwarded or answered already. -/
theorem afterReset_eq (y : Context) (r : RingId) : y.afterReset r =
    if y.ring = some r then
      if y.phase = .forwarded ∨ y.phase = .answering then { y with stopped := true, ring := none }
      else { y with stopped := true, ring := none, phase := .forwarded, access := .none }
    else y := by
  simp only [Context.afterReset, resetReleases_iff]
  by_cases own : y.ring = some r
  · by_cases ended : y.phase = .forwarded ∨ y.phase = .answering
    · have kept : ¬(y.phase ≠ .forwarded ∧ y.phase ≠ .answering) := by tauto
      simp [own, ended, kept]
    · obtain ⟨forwards, answers⟩ := not_or.1 ended
      simp [own, forwards, answers]
  · simp [own]

/-- Settles O25: the reset of the ring, the contexts and the accesses, and the requests it releases. -/
theorem resetRingAbandonsEverything : Obligations.ResetRingAbandonsEverything := by
  intro s part i rec r hs hat code ringField full
  obtain ⟨moved, perm, queue⟩ := decideAll_queue (s.abandon r) (s.resetOff r) full
  have frame := resetRing_eq s r
  have accesses (a : Access) := withdraw_mem s
    (fun o => s.ownedBy (fun y => y.ring == some r) o || o.ring? == some r) a
  have journal : (s.resetRing r).journal = (s.abandon r).journal := by simp [resetRing_split]
  have service : (s.resetRing r).service = (s.abandon r).service := by simp [resetRing_split]
  have ownTag (o : OwnTag) : (s.resetRing r).ownTag o = (s.abandon r).ownTag o := by simp [resetRing_split]
  refine ⟨s.resetRing r, moved, ?_, resetRing_ring_self s r, fun c => ?_, ?_, ?_, fun o => ?_, fun a => ?_, by rw [frame],
    fun held => ?_, Laws.resetRing_only r s, by rw [frame], by rw [frame]⟩
  · rw [exec_resetRing s part hs, execute_answer s part i rec _ _ r hat (by rw [code]; rfl) ringField .done _ rfl]
  · rw [resetRing_ctx]
    simp only [afterReset_eq]
  · rw [State.resetOff, List.map_append, List.map_map, writesOf_req] at perm
    simp only [resetReleases_iff, Function.comp_def] at perm
    exact perm
  · rw [frame]
    exact queue
  · rw [ownTag]
    refine (orphan_ownTag ..).trans ?_
    simp only [ownedBy_eq, Bool.or_eq_true, beq_iff_eq, Or.comm (a := _ = some r)]
    rfl
  · rw [journal, service]
    refine (accesses a).trans (and_congr_right fun _ => ?_)
    rw [Bool.or_eq_false_iff, ownedBy_eq_false, and_comm]
    simp
  · exact askPass_held _ (by simpa [State.abandon] using held)

/-! ### The report to the fault score (R148, R150, R151) -/

/-- What a score that reaches 160 does, by the state of the ring. -/
theorem scoreFails_eq (s : State) (r : RingId) (p : Phase) (h : (s.ring r).phase = p) : s.scoreFails r =
    match p.state with
    | .active | .closing => s.breakRing r .score
    | .checkpointing | .rolling =>
      if p.sub = .mark then (s.setRing r (s.ring r).withdrawMark).breakRing r .score else s.breakRing r .score
    | .opening => s.openFail r .score
    | .closed | .broken => s := by
  unfold State.scoreFails State.failMark
  rw [h]
  cases p <;> rfl

/-- Settles O26: the new score, the two levels, and the effect by the state of the ring. -/
theorem scoreReport : Obligations.ScoreReport := by
  intro s r ok old new s1 s2
  have suspect : (if crosses Config.suspectScore old new then s1.raise (.scoreSuspect r new) else s1) = s2 := by
    simp only [crosses, Bool.and_eq_true, decide_eq_true_eq]
    rfl
  have phase : (s2.ring r).phase = (s.ring r).phase := by
    have scored : s1.ring r = { s.ring r with score := new } := State.setRing_ring_self ..
    have raised : s2.ring r = s1.ring r := by
      simp only [s2]
      split
      · exact State.raise_ring ..
      · rfl
    rw [raised, scored]
  calc s.report r ok
      = if crosses Config.failedScore old new then s2.scoreFails r else s2 := by rw [← suspect]; rfl
    _ = _ := by
      rw [scoreFails_eq s2 r _ phase]
      simp only [crosses, Bool.and_eq_true, decide_eq_true_eq] <;> rfl

/-! ### The move to BROKEN (R59, R118, R124, R143) -/

theorem steers_iff (o : Owner) (r : RingId) :
    o.steers r = true ↔ (∃ h, o = .steerHeader r h) ∨ ∃ h, o = .steerImage r h := by
  cases o <;> simp [Owner.steers]

theorem steersTag_eq (o : Owner) (r : RingId) (t : HostTag) :
    o.steersTag r t = (o == .steerHeader r t || o == .steerImage r t) := by
  rw [Bool.eq_iff_iff]
  cases o <;> simp [Owner.steersTag]

/-- A break releases a context that awaits the frontier, or whose access waits in the arbiter. -/
theorem breakReleases_eq (y : Context) (r : RingId) : y.breakReleases r =
    (y.ring == some r && (y.phase == .awaitFrontier ||
      (y.access == .waiting && (y.phase == .preRead || y.phase == .imageWrite || y.phase == .headerWrite)))) := by
  unfold Context.breakReleases
  cases y.phase <;> simp <;> rfl

theorem mayBreak_iff (p : Phase) : p.mayBreak = true ↔ p ≠ .closed ∧ p.state ≠ .opening ∧ p ≠ .broken := by
  cases p <;> simp [Phase.mayBreak, Phase.state]

theorem breakRing_still (s : State) (r : RingId) (cause : Cause) (h : (s.ring r).phase.mayBreak = false) :
    s.breakRing r cause = s := by
  simp [State.breakRing, h]

theorem breakRing_breaks (s : State) (r : RingId) (cause : Cause) (h : (s.ring r).phase.mayBreak = true) :
    s.breakRing r cause = s.becomeBroken r cause := by
  simp [State.breakRing, h]

/-- Settles O27: the ring that cannot break, and the break of one that can. -/
theorem breakStopsJournaling : Obligations.BreakStopsJournaling := by
  intro s r cause full
  refine ⟨fun cannot => breakRing_still s r cause ?_, fun notClosed notOpening notBroken => ?_⟩
  · rw [← Bool.not_eq_true, mayBreak_iff]
    tauto
  rw [breakRing_breaks s r cause ((mayBreak_iff _).2 ⟨notClosed, notOpening, notBroken⟩)]
  have frame := becomeBroken_eq s r cause
  have waits : s.steerWaits r = fun q => s.journal.any fun a =>
      a.owner == .steerHeader r q.req.tag || a.owner == .steerImage r q.req.tag := by
    funext q
    simp only [State.steerWaits, steersTag_eq]
  have accesses (a : Access) := withdraw_mem s
    (fun o => s.ownedBy (·.breakReleases r) o || o.restores r || o.steers r) a
  have journal : (s.becomeBroken r cause).journal = (s.stopJournal r cause).journal := by simp [becomeBroken_split]
  have service : (s.becomeBroken r cause).service = (s.stopJournal r cause).service := by simp [becomeBroken_split]
  obtain ⟨moved, perm, queue⟩ := decideAll_queue (s.stopJournal r cause) (s.brokenOff r) full
  refine ⟨?_, fun c => ?_, ⟨moved, ?_, ?_⟩, fun a => ?_, by rw [frame], fun held => ?_, by rw [frame], by rw [frame],
    by rw [frame], by rw [frame], Laws.becomeBroken_only r s cause⟩
  · rw [becomeBroken_ring_self, waits]
    rfl
  · rw [becomeBroken_ctx]
    simp only [Context.afterBreak, breakReleases_eq]
  · rw [State.brokenOff, List.map_append, List.map_map, writesOf_req, waits] at perm
    simp only [breakReleases_eq, Function.comp_def] at perm
    exact perm
  · rw [frame]
    exact queue
  · rw [journal, service]
    refine (accesses a).trans (and_congr_right fun _ => ?_)
    rw [Bool.or_eq_false_iff, Bool.or_eq_false_iff, ownedBy_eq_false, ← Bool.not_eq_true (Owner.restores ..), restores_iff,
      ← Bool.not_eq_true (Owner.steers ..), steers_iff, and_assoc, and_comm]
    simp only [breakReleases_eq, not_or, not_exists, and_assoc, ne_eq]
  · exact askPass_held _ (by simpa [State.stopJournal] using held)

/-! ### The failure of an open (R136) -/

theorem opens_iff (o : Owner) (r : RingId) : o.opens r = true ↔
    o = .freshMark r ∨ o = .walkHeader r ∨ o = .walkImage r ∨ ∃ cell, o = .searchHeader r cell := by
  cases o <;> simp [Owner.opens]

theorem openFail_ring (s : State) (r : RingId) (cause : Cause) : (s.openFail r cause).ring r =
    { (s.ring r).zeroed.scanReset with
      phase := .closed, outstanding := [], touched := [], complete := false, highArmed := false, fullArmed := false,
      timer := none, markRetry := false, mark := none } := by
  simp only [State.openFail, State.askPass_ring, State.raise_ring, State.orphan_ring, State.withdraw_ring]
  exact State.setRing_ring_self ..

theorem openFail_ownTag (s : State) (r : RingId) (cause : Cause) (o : OwnTag) : (s.openFail r cause).ownTag o =
    match s.ownTag o with
    | .inUse (some owner) n => if owner.opens r = true then .inUse none n else .inUse (some owner) n
    | z => z := by
  simp only [State.openFail, State.askPass_ownTag, State.raise_ownTag]
  exact orphan_ownTag ..

/-- Settles O28: the ring's fields, and the accesses of the open. -/
theorem openFailure : Obligations.OpenFailure := by
  intro s r cause
  have ring := openFail_ring s r cause
  have accesses (a : Access) := withdraw_mem s (Owner.opens r) a
  have journal : (s.openFail r cause).journal = (s.withdraw (Owner.opens r)).journal := by
    simp only [State.openFail, State.askPass_journal, State.raise_journal]
    rfl
  have service : (s.openFail r cause).service = (s.withdraw (Owner.opens r)).service := by
    simp only [State.openFail, State.askPass_service, State.raise_service]
    rfl
  have contexts : (s.openFail r cause).contexts = s.contexts := by
    simp only [State.openFail, State.askPass_contexts, State.raise_contexts]
    rfl
  dsimp only
  rw [ring, journal, service]
  refine ⟨rfl, rfl, rfl, rfl, rfl, rfl, rfl, rfl, rfl, rfl, rfl, rfl, rfl, rfl, rfl, rfl, rfl, rfl, rfl, rfl, rfl, rfl, rfl,
    rfl, fun o owner n inUse mine => ?_, fun o other => ?_, fun a => ?_, raise_events_congr _ _ _ rfl rfl, fun held => ?_,
    contexts, Laws.openFail_only r s cause⟩
  · rw [openFail_ownTag, inUse]
    exact if_pos ((opens_iff owner r).2 mine)
  · rw [openFail_ownTag]
    split
    · next owner n inUse => rw [if_neg (mt (opens_iff owner r).1 (other owner n inUse)), inUse]
    · rfl
  · rw [accesses, ← Bool.not_eq_true, opens_iff]
  · exact askPass_held _ (by simpa using held)

end Sys2Proof.Machine

/-! The outcomes of mark writes (R98 to R102, R115 to R119, R130, R131, R136), over what a report of an outcome does to its
ring: it lowers the score, or raises it, or ends what the ring is doing (R148, R151). -/

namespace Sys2Proof.Machine

open Sys2Proof.Safety

/-! ### The three forms of a report (R148, R151) -/

section
variable (s : State) (r : RingId)

/-- The report of an access that ended OKAY lowers the score. -/
theorem report_okay : s.report r true = s.setRing r { s.ring r with score := (s.ring r).score - 1 } := by
  have noCross (level : Nat) : crosses level (s.ring r).score ((s.ring r).score - 1) = false := by
    simp only [crosses, Bool.and_eq_false_iff, decide_eq_false_iff_not]
    omega
  simp [State.report, scoreAfter, noCross]

/-- A failed access that carries the score to 160 ends what the ring is doing. -/
theorem report_ends (h : (s.ring r).score < 160 ∧ 160 ≤ (s.ring r).score + 16) : s.report r false =
    (s.setRing r { s.ring r with score := min 255 ((s.ring r).score + 16) }).scoreFails r := by
  have reaches : crosses 160 (s.ring r).score (min 255 ((s.ring r).score + 16)) = true := by
    simp only [crosses, Bool.and_eq_true, decide_eq_true_eq]
    omega
  have noSuspect : crosses 64 (s.ring r).score (min 255 ((s.ring r).score + 16)) = false := by
    simp only [crosses, Bool.and_eq_false_iff, decide_eq_false_iff_not]
    omega
  simp [State.report, scoreAfter, Config.failedScore, Config.suspectScore, Config.topScore, Config.failureWeight, reaches,
    noSuspect]

/-- Any other failed access raises the score, and SCORE-SUSPECT at 64. -/
theorem report_goesOn (h : ¬((s.ring r).score < 160 ∧ 160 ≤ (s.ring r).score + 16)) : s.report r false =
    let new := min 255 ((s.ring r).score + 16)
    let scored := s.setRing r { s.ring r with score := new }
    if crosses 64 (s.ring r).score new then scored.raise (.scoreSuspect r new) else scored := by
  have noReach : crosses 160 (s.ring r).score (min 255 ((s.ring r).score + 16)) = false := by
    simp only [crosses, Bool.and_eq_false_iff, decide_eq_false_iff_not]
    omega
  simp [State.report, scoreAfter, Config.failedScore, Config.suspectScore, Config.topScore, Config.failureWeight, noReach]

section
variable (h : ¬((s.ring r).score < 160 ∧ 160 ≤ (s.ring r).score + 16))
include h

theorem report_goesOn_ring : (s.report r false).ring r =
    { s.ring r with score := min 255 ((s.ring r).score + 16) } := by
  rw [report_goesOn s r h]
  dsimp only
  split
  · rw [State.raise_ring, State.setRing_ring_self]
  · rw [State.setRing_ring_self]

/-- Everything a report can change that does not end what the ring is doing. -/
theorem report_goesOn_eq : s.report r false = { s with
    rings := (s.report r false).rings, events := (s.report r false).events, overrun := (s.report r false).overrun,
    eventNumber := (s.report r false).eventNumber } := by
  rw [report_goesOn s r h]
  dsimp only
  split
  · rw [raise_eq]
    rfl
  · rfl

end

section
variable (h : (s.ring r).score < 160 ∧ 160 ≤ (s.ring r).score + 16)
include h

/-- A score that reaches 160 breaks a ring that can break. -/
theorem report_ends_broken (may : (s.ring r).phase.mayBreak = true) : ((s.report r false).ring r).phase = .broken := by
  rw [report_ends s r h]
  have may : ((s.setRing r { s.ring r with score := min 255 ((s.ring r).score + 16) }).ring r).phase.mayBreak = true := by
    rwa [State.setRing_ring_self]
  generalize s.setRing r { s.ring r with score := min 255 ((s.ring r).score + 16) } = u at may ⊢
  rcases (u.ring r).phase.score_cases with ⟨-, noMark⟩ | at_ | at_ | at_
  · rw [scoreFails_breaks u r may noMark]
    exact breakRing_phase u r _ may
  · rw [scoreFails_marks u r at_]
    exact failMark_phase u r _ may
  · exact absurd at_ ((mayBreak_iff _).1 may).2.1
  · obtain ⟨notClosed, -, notBroken⟩ := (mayBreak_iff _).1 may
    exact absurd at_ (not_or.2 ⟨notClosed, notBroken⟩)

/-- A score that reaches 160 fails an open. -/
theorem report_ends_closed (opening : (s.ring r).phase.state = .opening) :
    ((s.report r false).ring r).phase = .closed := by
  rw [report_ends s r h, scoreFails_opening _ _ (by rwa [State.setRing_ring_self])]
  exact openFail_phase ..

end

end

/-! ### The rows of a mark write -/

/-- A status other than OKAY is a failed access. -/
theorem accessEnd_failed (st : MemStatus) (data : List Byte) (h : st ≠ .okay) : accessEnd st data = .failed := by
  cases st
  case okay => exact absurd rfl h
  all_goals rfl

section
variable (s : State) (o : OwnTag) (n : Nat) (r : RingId) (st : MemStatus) (hs : s.inReset = false)
include hs

theorem exec_checkpointMark (h : s.ownTag o = .inUse (some (.checkpointMark r)) n) :
    exec (.checkpointMarkWriteComplete o st) s =
      .next ((s.setOwnTag o .free).endCheckpointMark r (accessEnd st [])) :=
  (running_eq s _ hs).trans (congrArg _ (answered_eq s o _ _ _ n h rfl))

theorem exec_rollbackMark (h : s.ownTag o = .inUse (some (.rollbackMark r)) n) :
    exec (.rollbackMarkWriteComplete o st) s =
      .next ((s.setOwnTag o .free).endRollbackMark r (accessEnd st [])) :=
  (running_eq s _ hs).trans (congrArg _ (answered_eq s o _ _ _ n h rfl))

theorem exec_freshMark (h : s.ownTag o = .inUse (some (.freshMark r)) n) :
    exec (.freshMarkWriteComplete o st) s = .next ((s.setOwnTag o .free).endFreshMark r (accessEnd st [])) :=
  (running_eq s _ hs).trans (congrArg _ (answered_eq s o _ _ _ n h rfl))

end

/-! ### What the outcome does -/

/-- A ring in ACTIVE in the epoch that a durable mark begins (R89, R99, R116, R131). -/
def Ring.begun (x : Ring) (m : Mark) : Ring :=
  { x with
    score := x.score - 1, release := m.cell, live := 1, epoch := m.epoch, frontier := m.seq, outstanding := [],
    touched := [], complete := true, highArmed := true, fullArmed := true, markRetry := false, mark := none,
    phase := .active, timer := intervalTime x.config.interval }

section
variable (s : State) (r : RingId) (m : Mark) (mark : (s.ring r).mark = some m)
include mark

/-- The withdrawal of the mark, by the ring as the report has left it. -/
theorem failMark_of_mark (cause : Cause) : s.failMark r cause = (s.setRing r { s.ring r with
    produce := m.cell, live := (s.ring r).live - 1, nextSeq := m.seq, mark := none }).breakRing r cause := by
  simp only [State.failMark, State.modRing_eq, Ring.withdrawMark, mark]

/-- The repeated write of a mark. -/
theorem repeatMark_eq (owner : Owner) : (s.setRing r { s.ring r with markRetry := true }).requestMark r owner =
    { s.setRing r { s.ring r with markRetry := true } with
      journal := s.journal ++ [headerWrite owner (s.ring r).config m.cell (markHeader r (s.ring r).config.tag m)] } := by
  simp only [State.requestMark, State.setRing_ring_self, mark]
  rfl

theorem endCheckpointMark_okay (at_ : (s.ring r).phase = .checkpointingMark) (data : List Byte) :
    s.endCheckpointMark r (.okay data) = ((s.setRing r { (s.ring r).begun m with reason := none }).raise
      (.checkpointed r ((s.ring r).reason.getD .command) m.epoch m.released)).askPass := by
  simp only [State.endCheckpointMark, AccessEnd.ok, report_okay, State.setRing_ring_self, at_, mark, if_true,
    State.checkpointComplete, State.setRing_setRing]
  rfl

theorem endRollbackMark_okay (at_ : (s.ring r).phase = .rollingMark) (data : List Byte) :
    s.endRollbackMark r (.okay data) = ((s.setRing r { (s.ring r).begun m with restored := 0 }).raise
      (.rolledBack r m.epoch (s.ring r).restored)).askPass := by
  simp only [State.endRollbackMark, AccessEnd.ok, report_okay, State.setRing_ring_self, at_, mark, if_true,
    State.rollbackComplete, State.setRing_setRing]
  rfl

theorem endFreshMark_okay (at_ : (s.ring r).phase = .openingMark) (data : List Byte) :
    s.endFreshMark r (.okay data) = ((s.setRing r { (s.ring r).begun m with openMode := none }).raise
      (.opened r .fresh m.epoch 1)).askPass := by
  simp only [State.endFreshMark, AccessEnd.ok, report_okay, State.setRing_ring_self, at_, mark, if_true,
    State.freshComplete, State.setRing_setRing]
  rfl

/-- A failed mark write of a checkpoint, by its report: ended with it, failed a second time, or repeated. -/
theorem endCheckpointMark_failed (at_ : (s.ring r).phase = .checkpointingMark) :
    s.endCheckpointMark r .failed =
      if (s.ring r).score < 160 ∧ 160 ≤ (s.ring r).score + 16 then s.report r false
      else if (s.ring r).markRetry then (s.report r false).failMark r .markFailed
      else ((s.report r false).setRing r { (s.report r false).ring r with markRetry := true }).requestMark r
        (.checkpointMark r) := by
  by_cases h : (s.ring r).score < 160 ∧ 160 ≤ (s.ring r).score + 16
  · have broken := report_ends_broken s r h (by rw [at_]; rfl)
    simp only [State.endCheckpointMark, AccessEnd.ok, broken, if_pos h]
  · have ring := report_goesOn_ring s r h
    simp only [State.endCheckpointMark, AccessEnd.ok, ring, at_, mark, if_neg h, Bool.false_eq_true, if_false]

theorem endRollbackMark_failed (at_ : (s.ring r).phase = .rollingMark) :
    s.endRollbackMark r .failed =
      if (s.ring r).score < 160 ∧ 160 ≤ (s.ring r).score + 16 then s.report r false
      else if (s.ring r).markRetry then (s.report r false).failMark r .markFailed
      else ((s.report r false).setRing r { (s.report r false).ring r with markRetry := true }).requestMark r
        (.rollbackMark r) := by
  by_cases h : (s.ring r).score < 160 ∧ 160 ≤ (s.ring r).score + 16
  · have broken := report_ends_broken s r h (by rw [at_]; rfl)
    simp only [State.endRollbackMark, AccessEnd.ok, broken, if_pos h]
  · have ring := report_goesOn_ring s r h
    simp only [State.endRollbackMark, AccessEnd.ok, ring, at_, mark, if_neg h, Bool.false_eq_true, if_false]

theorem endFreshMark_failed (at_ : (s.ring r).phase = .openingMark) :
    s.endFreshMark r .failed =
      if (s.ring r).score < 160 ∧ 160 ≤ (s.ring r).score + 16 then s.report r false
      else if (s.ring r).markRetry then (s.report r false).openFail r .markFailed
      else ((s.report r false).setRing r { (s.report r false).ring r with markRetry := true }).requestMark r
        (.freshMark r) := by
  by_cases h : (s.ring r).score < 160 ∧ 160 ≤ (s.ring r).score + 16
  · have closed := report_ends_closed s r h (by rw [at_]; rfl)
    simp only [State.endFreshMark, AccessEnd.ok, closed, if_pos h]
  · have ring := report_goesOn_ring s r h
    simp only [State.endFreshMark, AccessEnd.ok, ring, at_, mark, if_neg h, Bool.false_eq_true, if_false]

/-- The repeated write after a report that lets the operation go on. -/
theorem repeatMark_of_report (h : ¬((s.ring r).score < 160 ∧ 160 ≤ (s.ring r).score + 16)) (owner : Owner) :
    ((s.report r false).setRing r { (s.report r false).ring r with markRetry := true }).requestMark r owner =
      { (s.report r false).setRing r { (s.report r false).ring r with markRetry := true } with
        journal := s.journal ++ [headerWrite owner (s.ring r).config m.cell (markHeader r (s.ring r).config.tag m)] } := by
  have ring := report_goesOn_ring s r h
  have journal : (s.report r false).journal = s.journal := by rw [report_goesOn_eq s r h]
  rw [repeatMark_eq (s.report r false) r m (by rw [ring]; exact mark), journal]
  simp only [ring]

/-- The second failure after a report that lets the operation go on. -/
theorem failMark_of_report (h : ¬((s.ring r).score < 160 ∧ 160 ≤ (s.ring r).score + 16)) (cause : Cause) :
    (s.report r false).failMark r cause = ((s.report r false).setRing r { (s.report r false).ring r with
      produce := m.cell, live := (s.ring r).live - 1, nextSeq := m.seq, mark := none }).breakRing r cause := by
  have ring := report_goesOn_ring s r h
  rw [failMark_of_mark (s.report r false) r m (by rw [ring]; exact mark)]
  simp only [ring]

/-- The failure of a mark write, with `second` what a second one does, written out for the ring as the report leaves it. -/
theorem markFails_eq (owner : Owner) (second third : State)
    (h : ¬((s.ring r).score < 160 ∧ 160 ≤ (s.ring r).score + 16) → second = third) :
    (if (s.ring r).score < 160 ∧ 160 ≤ (s.ring r).score + 16 then s.report r false
      else if (s.ring r).markRetry then second
      else ((s.report r false).setRing r { (s.report r false).ring r with markRetry := true }).requestMark r owner) =
    if (s.ring r).score < 160 ∧ 160 ≤ (s.ring r).score + 16 then s.report r false
    else if (s.ring r).markRetry then third
    else { (s.report r false).setRing r { (s.report r false).ring r with markRetry := true } with
      journal := s.journal ++
        [headerWrite owner (s.ring r).config m.cell (markHeader r (s.ring r).config.tag m)] } := by
  split_ifs with reaches retry
  · rfl
  · exact h reaches
  · exact repeatMark_of_report s r m mark reaches owner

end

/-- Settles O29: the rows of the two mark writes, by the status and the report. -/
theorem checkpointAndRollbackMarkOutcome : Obligations.CheckpointAndRollbackMarkOutcome := by
  intro s o n r m reason st hs mark
  have free : (s.setOwnTag o .free).ring r = s.ring r := rfl
  have mark' : ((s.setOwnTag o .free).ring r).mark = some m := mark
  refine ⟨fun tag at_ why => ?_, fun tag at_ => ?_⟩
  · rw [exec_checkpointMark s o n r st hs tag]
    by_cases okay : st = .okay
    · subst okay
      rw [if_pos rfl]
      refine congrArg _ ((endCheckpointMark_okay _ r m mark' at_ []).trans ?_)
      simp only [free, why]
      rfl
    · rw [if_neg okay, accessEnd_failed st [] okay, endCheckpointMark_failed _ r m mark' at_]
      exact congrArg _ (markFails_eq _ r m mark' _ _ _ fun h => failMark_of_report _ r m mark' h _)
  · rw [exec_rollbackMark s o n r st hs tag]
    by_cases okay : st = .okay
    · subst okay
      rw [if_pos rfl]
      exact congrArg _ (endRollbackMark_okay _ r m mark' at_ [])
    · rw [if_neg okay, accessEnd_failed st [] okay, endRollbackMark_failed _ r m mark' at_]
      exact congrArg _ (markFails_eq _ r m mark' _ _ _ fun h => failMark_of_report _ r m mark' h _)

/-- Settles O30: the row of a FRESH mark write, by the status and the report. -/
theorem freshMarkOutcome : Obligations.FreshMarkOutcome := by
  intro s o n r m st hs tag at_ mark cell seq epoch
  have mark' : ((s.setOwnTag o .free).ring r).mark = some m := mark
  dsimp only
  rw [exec_freshMark s o n r st hs tag]
  by_cases okay : st = .okay
  · subst okay
    rw [if_pos rfl]
    refine congrArg _ ((endFreshMark_okay _ r m mark' at_ []).trans ?_)
    simp only [Ring.begun, cell, seq, epoch]
    rfl
  · rw [if_neg okay, accessEnd_failed st [] okay, endFreshMark_failed _ r m mark' at_]
    refine congrArg _ ((markFails_eq _ r m mark' (.freshMark r) _ _ fun _ => rfl).trans ?_)
    rw [cell]
    rfl

end Sys2Proof.Machine

/-! The write-ahead path (chapter 3): what the outcome of each own access makes of its context, and reservations that are
not granted. -/

namespace Sys2Proof.Machine

open Sys2Proof.Safety

/-! ### One context through a break and through a report (R43, R59) -/

section
variable (s : State) (c : CtxId) (y : Context) (r : RingId) (held : s.ctx c = some y)

section
include held

theorem forwardCtx_held (fresh : y.phase ≠ .forwarded ∧ y.phase ≠ .answering) : s.forwardCtx c =
    (s.setCtx c (some { y with phase := .forwarded, access := .none, stopped := true })).decide ⟨.context c, y.req⟩ := by
  simp [State.forwardCtx, held, fresh]

theorem answerCtx_held : s.answerCtx c =
    (s.setCtx c (some { y with phase := .answering, access := .none, image := none })).respond y.req.tag .error [] := by
  simp [State.answerCtx, held]

theorem reportCtx_held (own : y.ring = some r) (ok : Bool) : s.reportCtx c ok = s.report r ok := by
  simp [State.reportCtx, held, own]

end

/-- A context whose access is issued is not released by a break. -/
theorem breakReleases_issued (o : OwnTag) (issued : y.access = .issued o) (phase : y.phase ≠ .awaitFrontier) :
    y.breakReleases r = false := by
  simp [breakReleases_eq, issued, phase]

theorem breakReleases_reserve (phase : y.phase = .reserve) : y.breakReleases r = false := by
  simp [breakReleases_eq, phase]

/-- A context that a break of its ring does not release stops journaling. -/
theorem afterBreak_kept (own : y.ring = some r) (kept : y.breakReleases r = false) :
    y.afterBreak r = { y with stopped := true } := by
  simp [Context.afterBreak, kept, own]

theorem breakRing_ctx (cause : Cause) (may : (s.ring r).phase.mayBreak = true) :
    (s.breakRing r cause).ctx c = (s.ctx c).map (·.afterBreak r) := by
  rw [breakRing_breaks s r cause may, becomeBroken_ctx]

section
variable (own : y.ring = some r) (kept : y.breakReleases r = false)
include held own kept

theorem breakRing_ctx_kept (cause : Cause) (may : (s.ring r).phase.mayBreak = true) :
    (s.breakRing r cause).ctx c = some { y with stopped := true } := by
  rw [breakRing_ctx s c r cause may, held, Option.map_some, afterBreak_kept y r own kept]

/-- A score of 160 stops the context if it breaks the ring, and leaves it as it is if not. -/
theorem scoreFails_ctx_kept : ∃ stop, (s.scoreFails r).ctx c = some { y with stopped := stop } ∧
    (y.stopped = true → stop = true) ∧ ((s.ring r).phase.mayBreak = true → stop = true) := by
  rcases (s.ring r).phase.score_cases with ⟨may, noMark⟩ | at_ | at_ | at_
  · rw [scoreFails_breaks s r may noMark]
    exact ⟨true, breakRing_ctx_kept s c y r held own kept _ may, fun _ => rfl, fun _ => rfl⟩
  · have may : (s.ring r).phase.mayBreak = true := by rcases at_ with h | h <;> rw [h] <;> rfl
    rw [scoreFails_marks s r at_]
    refine ⟨true, breakRing_ctx_kept (s.modRing r Ring.withdrawMark) c y r held own kept _ ?_, fun _ => rfl, fun _ => rfl⟩
    simpa [withdrawMark_phase] using may
  · rw [scoreFails_opening s r at_]
    refine ⟨y.stopped, ?_, id, fun may => absurd at_ ((mayBreak_iff _).1 may).2.1⟩
    simp [State.openFail, held]
  · rw [scoreFails_still s r at_]
    exact ⟨y.stopped, held, id, fun may => absurd at_
      (not_or.2 ⟨((mayBreak_iff _).1 may).1, ((mayBreak_iff _).1 may).2.2⟩)⟩

/-- The context after the report of its failed access: stopped if the report broke its ring. -/
theorem report_failed_ctx : ∃ stop, (s.report r false).ctx c = some { y with stopped := stop } ∧
    (y.stopped = true → stop = true) ∧
    (¬((s.ring r).score < 160 ∧ 160 ≤ (s.ring r).score + 16) → stop = y.stopped) ∧
    ((s.ring r).score < 160 ∧ 160 ≤ (s.ring r).score + 16 → (s.ring r).phase.mayBreak = true → stop = true) := by
  by_cases h : (s.ring r).score < 160 ∧ 160 ≤ (s.ring r).score + 16
  · rw [report_ends s r h]
    obtain ⟨stop, after, stopped, breaks⟩ := scoreFails_ctx_kept
      (s.setRing r { s.ring r with score := min 255 ((s.ring r).score + 16) }) c y r held own kept
    exact ⟨stop, after, stopped, fun no => absurd h no, fun _ may => breaks (by rwa [State.setRing_ring_self])⟩
  · refine ⟨y.stopped, ?_, id, fun _ => rfl, fun yes => absurd yes h⟩
    rw [report_goesOn_eq s r h]
    exact held

end

end

/-! ### Rows of a context's access -/

section
variable (s : State) (o : OwnTag) (n : Nat) (c : CtxId) (st : MemStatus) (data : List Byte) (hs : s.inReset = false)
include hs

theorem exec_preRead (h : s.ownTag o = .inUse (some (.preRead c)) n) : exec (.preReadComplete o st data) s =
    .next ((s.setOwnTag o .free).endPreRead c (accessEnd st data)) :=
  (running_eq s _ hs).trans (congrArg _ (answered_eq s o _ _ _ n h rfl))

theorem exec_imageWrite (h : s.ownTag o = .inUse (some (.imageWrite c)) n) : exec (.imageWriteComplete o st) s =
    .next ((s.setOwnTag o .free).endImageWrite c (accessEnd st [])) :=
  (running_eq s _ hs).trans (congrArg _ (answered_eq s o _ _ _ n h rfl))

theorem exec_headerWrite (h : s.ownTag o = .inUse (some (.headerWrite c)) n) : exec (.headerWriteComplete o st) s =
    .next ((s.setOwnTag o .free).endHeaderWrite c (accessEnd st [])) :=
  (running_eq s _ hs).trans (congrArg _ (answered_eq s o _ _ _ n h rfl))

theorem exec_reservation : exec (.reservationRequest c) s = .next (s.takeReservation c) := running_eq s _ hs

end

/-! ### Pre-reads (R44, R45, R59) -/

/-- Settles O31: the image stored, the write forwarded, or the write answered ERROR. -/
theorem preReadOutcome : Obligations.PreReadOutcome := by
  intro s o n c y r st data hs tag held phase issued own good
  have kept := breakReleases_issued y r o issued (by rw [phase]; decide)
  have held' : (s.setOwnTag o .free).ctx c = some y := held
  have heldGood : good.ctx c = some y := held
  have okay (ok : st = .okay) : (s.setOwnTag o .free).endPreRead c (accessEnd st data) =
      if y.stopped then good.forwardCtx c
      else good.setCtx c (some { y with image := some data, phase := .reserve, access := .none }) := by
    subst ok
    have report : (s.setOwnTag o .free).reportCtx c true = good := by
      rw [reportCtx_held _ c y r held' own, report_okay]
      rfl
    simp only [State.endPreRead, accessEnd, AccessEnd.ok, report, heldGood, phase, if_true]
  refine ⟨fun ok journaled => ?_, fun ok stopped => ?_, fun failed => ?_⟩
  · rw [exec_preRead s o n c st data hs tag, okay ok, journaled, if_neg Bool.false_ne_true]
  · rw [exec_preRead s o n c st data hs tag, okay ok, stopped, if_pos rfl,
      forwardCtx_held good c y heldGood (by simp [phase]), ← stopped]
  · obtain ⟨stop, after, -⟩ := report_failed_ctx _ c y r held' own kept
    refine ⟨stop, ?_⟩
    rw [exec_preRead s o n c st data hs tag, accessEnd_failed st data failed]
    simp only [State.endPreRead, AccessEnd.ok, reportCtx_held _ c y r held' own, after, phase, if_true,
      answerCtx_held _ c _ after]

/-! ### Record writes (R49, R50, R51, R59) -/

section
variable (s : State) (c : CtxId) (x : Context) (again : State → State)

theorem recordWriteFailed_stopped (h : x.stopped = true) : s.recordWriteFailed c x again = s.forwardCtx c := by
  simp [State.recordWriteFailed, h]

theorem recordWriteFailed_second (r : RingId) (h : x.stopped = false) (used : x.retryUsed = true) (own : x.ring = some r) :
    s.recordWriteFailed c x again = (s.breakRing r .recordFailed).forwardCtx c := by
  simp [State.recordWriteFailed, h, used, own]

theorem recordWriteFailed_first (h : x.stopped = false) (fresh : x.retryUsed = false) :
    s.recordWriteFailed c x again = again (s.setCtx c (some { x with retryUsed := true, access := .waiting })) := by
  simp [State.recordWriteFailed, h, fresh]

end

/-- A context with an issued record write, and its record. -/
structure WritesRecord (s : State) (c : CtxId) (y : Context) (r : RingId) (v : Reserved) (image : List Byte) : Prop where
  held : s.ctx c = some y
  writes : y.phase = .imageWrite ∨ y.phase = .headerWrite
  issued : ∃ o, y.access = .issued o
  own : y.ring = some r
  reserved : y.reserved = some v
  stored : y.image = some image

section
variable {s : State} {c : CtxId} {y : Context} {r : RingId} {v : Reserved} {image : List Byte}
  (w : WritesRecord s c y r v image)
include w

theorem WritesRecord.kept : y.breakReleases r = false := by
  obtain ⟨o, issued⟩ := w.issued
  exact breakReleases_issued y r o issued (by rcases w.writes with h | h <;> rw [h] <;> decide)

theorem WritesRecord.fresh : y.phase ≠ .forwarded ∧ y.phase ≠ .answering := by
  rcases w.writes with h | h <;> simp [h]

/-- The host write leaves for the forward buffer, from a context that holds this write, stopped or not. -/
theorem WritesRecord.forward (u : State) (stop : Bool) (after : u.ctx c = some { y with stopped := stop }) :
    u.forwardCtx c = (u.setCtx c (some { y with phase := .forwarded, access := .none, stopped := true })).decide
      ⟨.context c, y.req⟩ :=
  forwardCtx_held u c { y with stopped := stop } after w.fresh

/-- A failed record write, by its report and the retry: the write left with the break of its report, the break of a
second failure, or the repeated write. -/
theorem WritesRecord.failed (again : State → State) :
    ∃ stop, (s.report r false).ctx c = some { y with stopped := stop } ∧
    let fails := (s.report r false).recordWriteFailed c { y with stopped := stop } again
    let leaves := fun z : State => (z.setCtx c (some { y with
      phase := .forwarded, access := .none, stopped := true })).decide ⟨.context c, y.req⟩
    (y.stopped = true → fails = leaves (s.report r false)) ∧
    ((s.ring r).score < 160 ∧ 160 ≤ (s.ring r).score + 16 → (s.ring r).phase.mayBreak = true →
      fails = leaves (s.report r false)) ∧
    (¬((s.ring r).score < 160 ∧ 160 ≤ (s.ring r).score + 16) → (s.ring r).phase.mayBreak = true → y.stopped = false →
      y.retryUsed = true → fails = leaves ((s.report r false).breakRing r .recordFailed)) ∧
    (¬((s.ring r).score < 160 ∧ 160 ≤ (s.ring r).score + 16) → y.stopped = false → y.retryUsed = false →
      fails = again ((s.report r false).setCtx c (some { y with retryUsed := true, access := .waiting }))) := by
  obtain ⟨stop, after, stopped, goesOn, breaks⟩ := report_failed_ctx s c y r w.held w.own w.kept
  have out (h : stop = true) := (recordWriteFailed_stopped (s.report r false) c { y with stopped := stop } again h).trans
    (w.forward _ stop after)
  refine ⟨stop, after, fun h => out (stopped h), fun h may => out (breaks h may), fun no may h used => ?_, fun no h unused => ?_⟩
  · obtain rfl := (goesOn no).trans h
    rw [recordWriteFailed_second _ c { y with stopped := false } again r rfl used w.own]
    refine w.forward _ true (breakRing_ctx_kept _ c { y with stopped := false } r after w.own w.kept _ ?_)
    rw [report_goesOn_ring s r no]
    exact may
  · obtain rfl := (goesOn no).trans h
    rw [recordWriteFailed_first _ c { y with stopped := false } again rfl unused, ← h]


/-- A record write that ended OKAY finds its context as it was. -/
theorem WritesRecord.okay : (s.report r true).ctx c = some y := by
  rw [report_okay]
  exact w.held

theorem WritesRecord.reportCtx (ok : Bool) : s.reportCtx c ok = s.report r ok := reportCtx_held s c y r w.held w.own ok

section
variable (stop : Bool) (after : (s.report r false).ctx c = some { y with stopped := stop })
include after

theorem WritesRecord.imageWrite_failed (at_ : y.phase = .imageWrite) : s.endImageWrite c .failed =
    (s.report r false).recordWriteFailed c { y with stopped := stop } fun t => t.requestImage c r v image := by
  simp only [State.endImageWrite, AccessEnd.ok, w.reportCtx, after, at_, w.own, w.reserved, w.stored]

theorem WritesRecord.headerWrite_failed (at_ : y.phase = .headerWrite) : s.endHeaderWrite c .failed =
    (s.report r false).recordWriteFailed c { y with stopped := stop } fun t => t.requestHeader c r v y.req.line image := by
  simp only [State.endHeaderWrite, AccessEnd.ok, w.reportCtx, after, at_, w.own, w.reserved, w.stored]

end

theorem WritesRecord.imageWrite_okay (data : List Byte) (at_ : y.phase = .imageWrite) :
    s.endImageWrite c (.okay data) =
      if y.stopped then (s.report r true).forwardCtx c
      else ((s.report r true).setCtx c (some { y with
        retryUsed := false, phase := .headerWrite, access := .waiting })).requestHeader c r v y.req.line image := by
  simp only [State.endImageWrite, AccessEnd.ok, w.reportCtx, w.okay, at_, w.own, w.reserved, w.stored]

theorem WritesRecord.headerWrite_okay (data : List Byte) (at_ : y.phase = .headerWrite) :
    s.endHeaderWrite c (.okay data) =
      let reported := { s.report r true with reports := (s.report r true).reports ++ [(⟨r, v.seq⟩ : Report)] }
      if y.stopped then reported.forwardCtx c
      else reported.setCtx c (some { y with phase := .awaitFrontier, access := .none }) := by
  simp only [State.endHeaderWrite, AccessEnd.ok, w.reportCtx, w.okay, at_, w.own, w.reserved, w.stored]

end

/-! ### The accesses requested again, and the header write behind an image write -/

section
variable (s : State) (c : CtxId) (r : RingId) (v : Reserved) (image : List Byte) (x : Option Context)

theorem requestImage_setCtx (u : State) (journal : u.journal = s.journal) (config : (u.ring r).config = (s.ring r).config) :
    (u.setCtx c x).requestImage c r v image = { u.setCtx c x with
      journal := s.journal ++ [imageWrite (.imageWrite c) (s.ring r).config v.cell image] } := by
  simp only [State.requestImage, State.requestJournal, State.setCtx_ring, State.setCtx_journal, journal, config]
  rfl

theorem requestHeader_setCtx (u : State) (line : Addr) (journal : u.journal = s.journal)
    (config : (u.ring r).config = (s.ring r).config) :
    (u.setCtx c x).requestHeader c r v line image = { u.setCtx c x with
      journal := s.journal ++ [headerWrite (.headerWrite c) (s.ring r).config v.cell (preImageHeader r v line image)] } := by
  simp only [State.requestHeader, State.requestJournal, State.setCtx_ring, State.setCtx_journal, journal, config]
  rfl

section
variable (h : ¬((s.ring r).score < 160 ∧ 160 ≤ (s.ring r).score + 16))
include h

theorem report_goesOn_journal : (s.report r false).journal = s.journal := by rw [report_goesOn_eq s r h]

theorem report_goesOn_config : ((s.report r false).ring r).config = (s.ring r).config := by
  rw [report_goesOn_ring s r h]

end

theorem report_okay_config : ((s.report r true).ring r).config = (s.ring r).config := by
  rw [report_okay, State.setRing_ring_self]

theorem report_okay_journal : (s.report r true).journal = s.journal := by rw [report_okay, State.setRing_journal]

end

/-- Settles O34: the report, then the record write's success or failure. -/
theorem imageWriteOutcome : Obligations.ImageWriteOutcome := by
  intro s o n c y r v image st hs tag held phase issued own reserved stored
  have w : WritesRecord (s.setOwnTag o .free) c y r v image := ⟨held, .inl phase, ⟨o, issued⟩, own, reserved, stored⟩
  dsimp only
  rw [exec_imageWrite s o n c st hs tag]
  by_cases ok : st = .okay
  · subst ok
    rw [show accessEnd .okay [] = .okay [] from rfl, w.imageWrite_okay [] phase]
    refine ⟨fun stopped => ?_, fun journaled _ => ?_, fun _ h => absurd rfl h⟩
    · rw [if_pos stopped]
      exact congrArg _ (w.forward _ y.stopped w.okay)
    · rw [if_neg (by simp [journaled])]
      exact congrArg _ (requestHeader_setCtx (s.setOwnTag o .free) c r v image _ _ _ (report_okay_journal ..)
        (report_okay_config ..))
  · obtain ⟨stop, after, stopped, ends, second, first⟩ := w.failed fun t => t.requestImage c r v image
    rw [accessEnd_failed st [] ok, w.imageWrite_failed stop after phase, beq_false_of_ne ok]
    exact ⟨fun h => congrArg _ (stopped h), fun _ h => absurd h ok, fun h _ may =>
      ⟨fun reaches _ => congrArg _ (ends reaches may), fun no used => congrArg _ (second no may h used),
        fun no unused => congrArg _ ((first no h unused).trans (requestImage_setCtx (s.setOwnTag o .free) c r v image _ _
          (report_goesOn_journal _ r no) (report_goesOn_config _ r no)))⟩⟩

/-- Settles O35: the report, then the durability report and the context's way on, or the record write's failure. -/
theorem headerWriteOutcome : Obligations.HeaderWriteOutcome := by
  intro s o n c y r v image st hs tag held phase issued own reserved stored
  have w : WritesRecord (s.setOwnTag o .free) c y r v image := ⟨held, .inr phase, ⟨o, issued⟩, own, reserved, stored⟩
  dsimp only
  rw [exec_headerWrite s o n c st hs tag]
  by_cases ok : st = .okay
  · subst ok
    have reports : ((s.setOwnTag o .free).report r true).reports = s.reports := by rw [report_okay]; rfl
    rw [show accessEnd .okay [] = .okay [] from rfl, w.headerWrite_okay [] phase, reports]
    refine ⟨fun stopped _ => ?_, fun _ h => absurd rfl h, fun journaled _ => ?_, fun _ h => absurd rfl h⟩
    · dsimp only
      rw [if_pos stopped]
      exact congrArg _ (w.forward _ y.stopped w.okay)
    · dsimp only
      rw [if_neg (by simp [journaled])]
      rfl
  · obtain ⟨stop, after, stopped, ends, second, first⟩ := w.failed fun t => t.requestHeader c r v y.req.line image
    rw [accessEnd_failed st [] ok, w.headerWrite_failed stop after phase, beq_false_of_ne ok]
    exact ⟨fun _ h => absurd h ok, fun h _ => congrArg _ (stopped h), fun _ h => absurd h ok, fun h _ may =>
      ⟨fun reaches _ => congrArg _ (ends reaches may), fun no used => congrArg _ (second no may h used),
        fun no unused => congrArg _ ((first no h unused).trans (requestHeader_setCtx (s.setOwnTag o .free) c r v image _ _
          _ (report_goesOn_journal _ r no) (report_goesOn_config _ r no)))⟩⟩

end Sys2Proof.Machine

/-! Reservations (R8 to R17, R46 to R49, R65) and durability reports (R18, R19, R52). -/

namespace Sys2Proof.Machine

open Sys2Proof.Safety

/-! ### A reservation that is not granted -/

section
variable (s : State) (c : CtxId) (y : Context) (r : RingId)

/-- The answer UNJOURNALED, for a context in RESERVE that a break may have stopped (R48). -/
theorem unjournaled_reserve (stop : Bool) (held : s.ctx c = some { y with stopped := stop }) (reserve : y.phase = .reserve) :
    s.unjournaled c = (s.setCtx c (some { y with
      image := none, stopped := true, phase := .forwarded, access := .none })).decide ⟨.context c, y.req⟩ := by
  have unjournaled : s.unjournaled c = (s.setCtx c (some { y with image := none, stopped := true })).forwardCtx c := by
    simp only [State.unjournaled, held]
  rw [unjournaled, forwardCtx_held _ c _ (State.setCtx_ctx_self ..) (by simp [reserve]), State.setCtx_setCtx]

variable (held : s.ctx c = some y) (reserve : y.phase = .reserve) (own : y.ring = some r)
include held reserve own

/-- A break that the reservation has brought about, and the answer behind it. -/
theorem breakRing_unjournaled (cause : Cause) (may : (s.ring r).phase.mayBreak = true) :
    (s.breakRing r cause).unjournaled c = ((s.breakRing r cause).setCtx c (some { y with
      image := none, stopped := true, phase := .forwarded, access := .none })).decide ⟨.context c, y.req⟩ :=
  unjournaled_reserve _ c y true (breakRing_ctx_kept s c y r held own (breakReleases_reserve y r reserve) cause may) reserve

/-- Outside the sub-phases in which a ring takes reservations, or stopped, the context is answered UNJOURNALED. -/
theorem takeReservation_unjournaled (h : y.stopped = true ∨ ¬((s.ring r).phase = .active ∨
      (s.ring r).phase = .checkpointingDrain ∨ (s.ring r).phase = .rollingDrain ∨ (s.ring r).phase = .closingDrain)) :
    s.takeReservation c = s.unjournaled c := by
  simp only [State.takeReservation, held, reserve, own, if_true]
  split
  · rfl
  · next journaled =>
    have closed := h.resolve_left journaled
    split
    case h_1 | h_2 | h_3 | h_4 => next at_ => exact absurd at_ (by tauto)
    all_goals rfl

/-- A ring that takes reservations tests exhaustion before the fill level (R11). -/
theorem takeReservation_taken (journaled : y.stopped = false) (h : (s.ring r).phase = .active ∨
      (s.ring r).phase = .checkpointingDrain ∨ (s.ring r).phase = .rollingDrain ∨ (s.ring r).phase = .closingDrain) :
    s.takeReservation c = s.reserveIn c r y := by
  simp only [State.takeReservation, held, reserve, own, journaled, if_true, Bool.false_eq_true, if_false]
  rcases h with h | h | h | h <;> rw [h]

end

/-- The tests of a ring that takes reservations, in their order (R8, R11, R14, R15). -/
theorem reserveIn_eq (s : State) (c : CtxId) (r : RingId) (y : Context) : s.reserveIn c r y =
    if (s.ring r).nextSeq = 0 then (s.breakRing r .sequence).unjournaled c
    else if (s.ring r).config.cells < (s.ring r).live + 2 then
      if (s.ring r).config.policy = .breaks then (s.breakRing r .full).unjournaled c else s.reservationFull c r
    else s.grantReservation c r y := by
  simp only [State.reserveIn, exhausted_iff, ← Nat.not_le, ite_not]
  cases h : (s.ring r).config.policy <;> simp

/-- The answer FULL (R14, R47). -/
theorem reservationFull_held (s : State) (c : CtxId) (r : RingId) (y : Context) (held : s.ctx c = some y) :
    s.reservationFull c r =
      ((if (s.ring r).fullArmed then (s.setRing r { s.ring r with fullArmed := false }).raise (.ringFull r) else s).setCtx c
        (some { y with phase := .answering, access := .none, image := none })).respond y.req.tag .error [] := by
  refine answerCtx_held _ c y ?_
  split
  · rw [State.raise_ctx]
    exact held
  · exact held

/-- Settles O33: the stopped context, the exhausted ring and the full ring, in the order of the tests. -/
theorem reservationRefused : Obligations.ReservationRefused := by
  intro s c y r hs held reserve own
  dsimp only
  have unjournaled := unjournaled_reserve s c y y.stopped held reserve
  have breaks (cause : Cause) (may : (s.ring r).phase.mayBreak = true) :=
    breakRing_unjournaled s c y r held reserve own cause may
  rw [exec_reservation s c hs]
  refine congrArg _ ?_
  by_cases takes : (s.ring r).phase = .active ∨ (s.ring r).phase = .checkpointingDrain ∨
      (s.ring r).phase = .rollingDrain ∨ (s.ring r).phase = .closingDrain
  · have may : (s.ring r).phase.mayBreak = true := by rcases takes with h | h | h | h <;> rw [h] <;> rfl
    obtain ⟨notClosed, -, notBroken⟩ := (mayBreak_iff _).1 may
    simp only [takes, notClosed, notBroken, true_and, or_false, if_true]
    by_cases stopped : y.stopped = true
    · rw [takeReservation_unjournaled s c y r held reserve own (.inl stopped), unjournaled, if_pos stopped]
    · rw [takeReservation_taken s c y r held reserve own (Bool.eq_false_iff.2 stopped) takes, reserveIn_eq, breaks _ may,
        breaks _ may, reservationFull_held s c r y held, if_neg stopped]
  · rw [takeReservation_unjournaled s c y r held reserve own (.inr takes), unjournaled]
    simp only [takes, false_and, if_false, ite_self]

/-! ### A granted reservation (R12, R17, R46, R49, R65) -/

section
variable (x : Ring) (line : Addr)

theorem tracked_iff : x.tracked line = true ↔ ∃ e ∈ x.touched, e.line = line := by simp [Ring.tracked]

theorem offer_unchanged (cell : Nat) (h : x.complete = false ∨ ∃ e ∈ x.touched, e.line = line) : x.offer line cell = x := by
  rw [← tracked_iff] at h
  rcases h with h | h <;> simp [Ring.offer, h]

section
variable (cell : Nat) (complete : x.complete = true) (fresh : ¬∃ e ∈ x.touched, e.line = line)
include complete fresh

theorem offer_room (room : x.touched.length < 256) :
    x.offer line cell = { x with touched := x.touched ++ [{ line, cell, restored := false }] } := by
  rw [← tracked_iff, Bool.not_eq_true] at fresh
  simp [Ring.offer, complete, fresh, Config.touchedPlaces, room]

theorem offer_full (full : 256 ≤ x.touched.length) : x.offer line cell = { x with complete := false } := by
  rw [← tracked_iff, Bool.not_eq_true] at fresh
  simp [Ring.offer, complete, fresh, Config.touchedPlaces, Nat.not_lt.2 full]

end

theorem grantRecord_eq : x.grantRecord line = { x with
    nextSeq := x.nextSeq + 1, produce := (x.produce + 1) % x.config.cells, live := x.live + 1,
    outstanding := x.outstanding ++ [{ seq := x.nextSeq, cell := x.produce, durable := false }],
    touched := (x.offer line x.produce).touched, complete := (x.offer line x.produce).complete } := by
  rw [Ring.grantRecord, offer_eq]
  rfl

theorem fillHighDue_grantRecord : (x.grantRecord line).fillHighDue = true ↔
    x.config.highWater ≠ 0 ∧ x.config.highWater ≤ x.live + 1 ∧ x.highArmed = true := by
  rw [grantRecord_eq]
  simp [Ring.fillHighDue, and_assoc]

end

section
variable (s : State) (r : RingId) (x : Ring)

/-- The high-water test lets the ring go on as it is, or disarms it and raises FILL-HIGH (R17). -/
theorem highWaterTest_eq : (s.setRing r x).highWaterTest r =
    if x.fillHighDue then (s.setRing r { x with highArmed := false }).raise (.fillHigh r x.live) else s.setRing r x := by
  simp only [State.highWaterTest, State.setRing_ring_self, State.setRing_setRing]

theorem highWaterTest_ring_self : ((s.setRing r x).highWaterTest r).ring r =
    { x with highArmed := x.highArmed && !x.fillHighDue } := by
  rw [highWaterTest_eq]
  cases h : x.fillHighDue <;> simp

theorem highWaterTest_ring_ne (q : RingId) (other : q ≠ r) : ((s.setRing r x).highWaterTest r).ring q = s.ring q := by
  rw [highWaterTest_eq]
  split
  · rw [State.raise_ring, State.setRing_ring_ne _ _ _ _ other]
  · exact State.setRing_ring_ne _ _ _ _ other

theorem highWaterTest_events : ((s.setRing r x).highWaterTest r).events =
    if x.fillHighDue then (s.raise (.fillHigh r x.live)).events else s.events := by
  rw [highWaterTest_eq]
  split
  · exact raise_events_congr s _ _ rfl rfl
  · rfl

/-- Everything the high-water test of a ring can change. -/
theorem highWaterTest_frame : (s.setRing r x).highWaterTest r = { s with
    rings := ((s.setRing r x).highWaterTest r).rings, events := ((s.setRing r x).highWaterTest r).events,
    overrun := ((s.setRing r x).highWaterTest r).overrun,
    eventNumber := ((s.setRing r x).highWaterTest r).eventNumber } := by
  rw [highWaterTest_eq]
  split
  · rw [raise_eq]
    rfl
  · rfl

end

/-- Settles O32: the record, the offer of its line, the high-water test and the image write. -/
theorem reservationGranted : Obligations.ReservationGranted := by
  intro s c y r image hs held reserve own journaled stored takes fresh room
  dsimp only
  let g := (s.ring r).grantRecord y.req.line
  let u := (s.setRing r g).highWaterTest r
  let v : Reserved :=
    { seq := (s.ring r).nextSeq, cell := (s.ring r).produce, tag := (s.ring r).config.tag, epoch := (s.ring r).epoch }
  have g_eq : g = _ := grantRecord_eq (s.ring r) y.req.line
  have due : g.fillHighDue = true ↔ _ := fillHighDue_grantRecord (s.ring r) y.req.line
  have ring : u.ring r = { g with highArmed := g.highArmed && !g.fillHighDue } := highWaterTest_ring_self s r g
  have frame : u = { s with rings := u.rings, events := u.events, overrun := u.overrun, eventNumber := u.eventNumber } :=
    highWaterTest_frame s r g
  have journal : u.journal = s.journal := by rw [frame]
  have config : (u.ring r).config = (s.ring r).config := by rw [ring, g_eq]
  have granted : s.grantReservation c r y = { u.setCtx c (some { y with
      reserved := some v, phase := .imageWrite, access := .waiting }) with
      journal := s.journal ++ [imageWrite (.imageWrite c) (s.ring r).config v.cell image] } := by
    rw [State.grantReservation, stored]
    exact requestImage_setCtx s c r v image _ u journal config
  refine ⟨s.grantReservation c r y, ?_, ?_⟩
  · rw [exec_reservation s c hs, takeReservation_taken s c y r held reserve own journaled takes, reserveIn_eq, if_neg fresh,
      if_neg (by omega)]
  have touched : (u.ring r).touched = ((s.ring r).offer y.req.line (s.ring r).produce).touched := by rw [ring, g_eq]
  have complete : (u.ring r).complete = ((s.ring r).offer y.req.line (s.ring r).produce).complete := by rw [ring, g_eq]
  have live : g.live = (s.ring r).live + 1 := by rw [g_eq]
  have armed : g.highArmed = (s.ring r).highArmed := by rw [g_eq]
  have rings (q : RingId) : (s.grantReservation c r y).ring q = u.ring q := by rw [granted]; rfl
  have events : (s.grantReservation c r y).events = u.events := by rw [granted]; rfl
  rw [rings, events]
  refine ⟨fun q other => ?_, fun k other => ?_, ?_, by rw [granted], ?_, fun whole new room => ?_, fun whole new full => ?_,
    fun old => ?_, fun high => ?_, fun low => ?_, ?_⟩
  · rw [rings]
    exact highWaterTest_ring_ne s r g q other
  · rw [granted]
    refine (State.setCtx_ctx_ne _ _ _ _ other).trans ?_
    rw [frame]
    rfl
  · rw [granted]
    exact State.setCtx_ctx_self ..
  · rw [ring, g_eq]
  · rw [touched, complete, offer_room _ _ _ whole new room]
    exact ⟨rfl, whole⟩
  · rw [touched, complete, offer_full _ _ _ whole new full]
    exact ⟨rfl, rfl⟩
  · rw [touched, complete, offer_unchanged _ _ _ old]
    exact ⟨rfl, rfl⟩
  · have events : u.events = _ := highWaterTest_events s r g
    rw [events, ring, due.2 high, live]
    simp
  · have events : u.events = _ := highWaterTest_events s r g
    rw [events, ring, Bool.eq_false_iff.2 (mt due.1 low), armed]
    simp
  · rw [granted, frame]
    rfl

/-! ### Durability reports (R18, R19, R52) -/

section
variable (x : Ring) (seq : Seq)

/-- The list with the entry of a sequence number durable (R18). -/
theorem takeReport_known (h : ∃ e ∈ x.outstanding, e.seq = seq) : x.takeReport seq =
    let marked := x.outstanding.map fun e => if e.seq = seq then { e with durable := true } else e
    { x with
      outstanding := marked.dropWhile fun e => e.durable
      frontier := match (marked.takeWhile fun e => e.durable).getLast? with
        | some e => e.seq
        | none => x.frontier } := by
  have any : (x.outstanding.any fun e => e.seq == seq) = true := by simpa using h
  simp only [Ring.takeReport, any, if_true]
  rfl

theorem takeReport_unknown (h : ¬∃ e ∈ x.outstanding, e.seq = seq) : x.takeReport seq = x := by
  have any : (x.outstanding.any fun e => e.seq == seq) = false := by simpa using h
  simp only [Ring.takeReport, any, Bool.false_eq_true, if_false]

end

/-- The requests that a rise of the frontier releases go behind those decided before (R52, R159). -/
theorem frontierRise_queue (s : State) (r : RingId) (full : s.decided ≠ [] → s.forward.length = 4) :
    ∃ moved : List HostRequest, moved.Perm ((List.finRange 8).filterMap fun c => match s.ctx c with
        | some y => if y.passedBy r (s.ring r).frontier then some y.req else none
        | none => none) ∧
      (s.frontierRise r).forward ++ (s.frontierRise r).decided.map (·.req) =
        s.forward ++ s.decided.map (·.req) ++ moved := by
  obtain ⟨moved, perm, queue⟩ := decideAll_queue { s with
    contexts := mapVec (Option.map fun x : Context =>
      if x.passedBy r (s.ring r).frontier then { x with phase := .forwarded } else x) s.contexts }
    (s.writesOf (·.passedBy r (s.ring r).frontier)) full
  rw [writesOf_req] at perm
  exact ⟨moved, perm, queue⟩

/-- Everything a report that has been sent can change. -/
theorem takeReport_frame (s : State) (r : RingId) (seq : Seq) (sent : (⟨r, seq⟩ : Report) ∈ s.reports) :
    s.takeReport r seq = { s with
      rings := (s.takeReport r seq).rings, contexts := (s.takeReport r seq).contexts, reports := s.reports.erase ⟨r, seq⟩,
      forward := (s.takeReport r seq).forward, decided := (s.takeReport r seq).decided,
      script := (s.takeReport r seq).script, drawn := (s.takeReport r seq).drawn } := by
  by_cases same : ((s.ring r).takeReport seq).frontier = (s.ring r).frontier
  · rw [takeReport_still s r seq sent same]
    rfl
  · rw [takeReport_rises s r seq sent same, frontierRise_eq]
    rfl

/-- The rings after a report that has been sent. -/
theorem takeReport_ring (s : State) (r q : RingId) (seq : Seq) (sent : (⟨r, seq⟩ : Report) ∈ s.reports) :
    (s.takeReport r seq).ring q = if q = r then (s.ring r).takeReport seq else s.ring q := by
  have reported : (s.reported r seq).ring q = if q = r then (s.ring r).takeReport seq else s.ring q :=
    State.setRing_ring ..
  by_cases same : ((s.ring r).takeReport seq).frontier = (s.ring r).frontier
  · rw [takeReport_still s r seq sent same, reported]
  · rw [takeReport_rises s r seq sent same, frontierRise_ring, reported]

/-- Settles O36: the ring's list and frontier, and the contexts that a rise of the frontier passes. -/
theorem durabilityReportMovesTheFrontier : Obligations.DurabilityReportMovesTheFrontier := by
  intro s r seq hs sent full
  have frame := takeReport_frame s r seq sent
  have ring : (s.takeReport r seq).ring r = (s.ring r).takeReport seq := by
    rw [takeReport_ring s r r seq sent, if_pos rfl]
  have known_eq := takeReport_known (s.ring r) seq
  have unknown_eq := takeReport_unknown (s.ring r) seq
  dsimp only at known_eq ⊢
  have reports : (s.takeReport r seq).reports = s.reports.erase ⟨r, seq⟩ := by rw [frame]
  refine ⟨s.takeReport r seq, running_eq s _ hs, reports, ?_⟩
  rw [ring]
  refine ⟨fun known => by rw [known_eq known], fun e known last => ?_, fun still => ?_,
    fun unknown => by rw [unknown_eq unknown], takeReport_eq _ _, fun known rises => ?_, fun q other => ?_, by rw [reports]; exact frame⟩
  · rw [known_eq known, last]
  · have same : ((s.ring r).takeReport seq).frontier = (s.ring r).frontier := by
      by_cases known : ∃ e ∈ (s.ring r).outstanding, e.seq = seq
      · rw [known_eq known, still.resolve_left (not_not_intro known)]
        rfl
      · rw [unknown_eq known]
    rw [takeReport_still s r seq sent same]
    exact ⟨same, rfl, rfl, rfl⟩
  · have reported : (s.reported r seq).ring r = (s.ring r).takeReport seq := State.setRing_ring_self ..
    rw [takeReport_rises s r seq sent rises]
    refine ⟨fun c => ?_, ?_⟩
    · rw [frontierRise_ctx, reported]
      rfl
    · have queue := frontierRise_queue (s.reported r seq) r full
      rw [reported] at queue
      exact queue
  · rw [takeReport_ring s r q seq sent, if_neg other]

end Sys2Proof.Machine

/-! The tests of records read back (R109, R122, R132, R134), and the outcomes of restore and steering accesses (chapter 7). -/

namespace Sys2Proof.Machine

open Sys2Proof.Safety

/-! ### The fields a reader tests (R180) -/

theorem ofNat_eq_iff {w : Nat} (n : Nat) (x : BitVec w) (h : n < 2 ^ w) : BitVec.ofNat w n = x ↔ n = x.toNat := by
  rw [← BitVec.toNat_inj, BitVec.toNat_ofNat, Nat.mod_eq_of_lt h]

section
variable (h : List Byte)

theorem parseHeader_tag (t : JournalTag) : (parseHeader h).tag = t ↔ fieldAt h 4 2 = t.toNat :=
  ofNat_eq_iff _ t (fieldAt_lt h 4 2)

theorem parseHeader_epoch (e : Epoch) : (parseHeader h).epoch = e ↔ fieldAt h 6 4 = e.toNat :=
  ofNat_eq_iff _ e (fieldAt_lt h 6 4)

theorem parseHeader_line (a : Addr) : (parseHeader h).line = a ↔ fieldAt h 10 5 = a.toNat :=
  ofNat_eq_iff _ a (fieldAt_lt h 10 5)

theorem parseHeader_seq (q : Seq) : (parseHeader h).seq = q ↔ fieldAt h 16 8 = q.toNat :=
  ofNat_eq_iff _ q (fieldAt_lt h 16 8)

theorem parseHeader_check (c : Check) : (parseHeader h).check = c ↔ fieldAt h 28 4 = c.toNat :=
  ofNat_eq_iff _ c (fieldAt_lt h 28 4)

/-- The check that a reader computes is that of bytes 0 to 27 and the image (R181). -/
theorem check_passes (image : List Byte) :
    (parseHeader h).check = checkOf h image ↔ fieldAt h 28 4 = (crc32 (h.take 28 ++ image)).toNat := by
  rw [parseHeader_check, checkOf]

end

/-- An address is that of a line when its low 6 bits are clear. -/
theorem lineOf_eq_self (a : Addr) : lineOf a = a ↔ a.toNat % 64 = 0 := by
  have low : (a &&& 0x3F).toNat = a.toNat % 64 := by
    rw [BitVec.toNat_and]
    exact Nat.and_two_pow_sub_one_eq_mod a.toNat 6
  have clear : lineOf a = a ↔ a &&& 0x3F = 0 := by
    constructor
    · intro same
      have masked : lineOf a &&& 0x3F = 0 := by
        rw [lineOf, BitVec.and_assoc, show (~~~0x3F : Addr) &&& 0x3F = 0 by decide]
        exact BitVec.and_zero
      rwa [same] at masked
    · intro none
      refine BitVec.eq_of_getLsbD_eq fun i hi => ?_
      have bit : (a &&& 0x3F).getLsbD i = false := by
        rw [none]
        exact BitVec.getLsbD_zero
      rw [BitVec.getLsbD_and, Bool.and_eq_false_iff] at bit
      simp only [lineOf, BitVec.getLsbD_and, BitVec.getLsbD_not, hi, decide_true, Bool.true_and]
      rcases bit with bit | bit
      · simp [bit]
      · change (0x3F#40).getLsbD i = false at bit
        simp [bit]
  rw [clear, ← BitVec.toNat_inj, low]
  rfl

/-- Settles O37: the tests of each reader, field by field. -/
theorem recordTests : Obligations.RecordTests := by
  intro x r h image line m own
  refine ⟨?_, ?_, ?_, fun room => ?_⟩
  · simp only [Ring.restorePasses, Bool.and_eq_true, check_passes, beq_iff_eq, parseHeader_tag, parseHeader_epoch, own,
      and_assoc]
    rfl
  · simp only [Ring.steerPasses, Bool.and_eq_true, check_passes, beq_iff_eq, parseHeader_tag, parseHeader_epoch,
      parseHeader_line, own, and_assoc]
    rfl
  · have seq : (parseHeader h).seq ≠ 0 ↔ fieldAt h 16 8 ≠ 0 := not_congr (parseHeader_seq h 0)
    have epoch : (parseHeader h).epoch ≠ 0 ↔ fieldAt h 6 4 ≠ 0 := not_congr (parseHeader_epoch h 0)
    simp only [Ring.validMark, Bool.and_eq_true, check_passes, beq_iff_eq, bne_iff_ne, parseHeader_tag, seq, epoch, own,
      and_assoc, List.append_nil]
    rfl
  · have next : (m.seq + BitVec.ofNat 64 (x.walkCount + 1)).toNat = m.seq.toNat + x.walkCount + 1 := by
      rw [BitVec.toNat_add, BitVec.toNat_ofNat]
      omega
    have aligned : lineOf (parseHeader h).line = (parseHeader h).line ↔ fieldAt h 10 5 % 64 = 0 := by
      rw [lineOf_eq_self, ← (parseHeader_line h _).1 rfl]
    simp only [Ring.walkPasses, Bool.and_eq_true, beq_iff_eq, parseHeader_tag, parseHeader_epoch, parseHeader_seq, next,
      aligned, own, and_assoc]
    rfl

/-! ### A report of a ring in ROLLING/RESTORE, and of one that has left it -/

section
variable (s : State) (r : RingId)

/-- A ring that is not in a phase other than CLOSED and BROKEN is not brought there by a report. -/
theorem report_phase_ne (ok : Bool) (p : Phase) (h : (s.ring r).phase ≠ p) (closed : p ≠ .closed) (broken : p ≠ .broken) :
    ((s.report r ok).ring r).phase ≠ p := by
  rcases report_phase s r ok with same | at_ | at_
  · rwa [same]
  · rw [at_]
    exact broken.symm
  · rw [at_]
    exact closed.symm

section
variable (h : ¬((s.ring r).score < 160 ∧ 160 ≤ (s.ring r).score + 16))
include h

theorem report_goesOn_service : (s.report r false).service = s.service := by rw [report_goesOn_eq s r h]

theorem report_goesOn_phase : ((s.report r false).ring r).phase = (s.ring r).phase := by rw [report_goesOn_ring s r h]

end

theorem accessEnd_ok (st : MemStatus) (data : List Byte) : (accessEnd st data).ok = (st == .okay) := by
  cases st <;> rfl

/-- A drain test of a broken ring does nothing. -/
theorem drainTest_broken (h : (s.ring r).phase = .broken) : s.drainTest r = s :=
  drainTest_eq_self s r (.inr (by rw [h]; decide))

/-! ### Restore reads (R108, R109, R118) -/

/-- Outside ROLLING/RESTORE a restore access only counts, and the drain is tested (R58, R145). -/
theorem endRestore_left (e : AccessEnd) (left : (s.ring r).phase ≠ .rollingRestore) :
    s.endRestoreHeader r e = (s.report r e.ok).drainTest r ∧ s.endRestoreImage r e = (s.report r e.ok).drainTest r ∧
      s.endRestoreWrite r e = (s.report r e.ok).drainTest r := by
  have gone := report_phase_ne s r e.ok .rollingRestore left (by decide) (by decide)
  unfold State.endRestoreHeader State.endRestoreImage State.endRestoreWrite
  dsimp only
  generalize (s.report r e.ok).ring r = x at gone ⊢
  obtain ⟨p, at_⟩ : ∃ p, x.phase = p := ⟨_, rfl⟩
  rw [at_] at gone ⊢
  cases p
  case rollingRestore => exact absurd rfl gone
  all_goals exact ⟨rfl, rfl, rfl⟩

section
variable (at_ : (s.ring r).phase = .rollingRestore)
include at_

/-- A failed restore access whose report breaks the ring has no other effect. -/
theorem endRestore_ends (h : (s.ring r).score < 160 ∧ 160 ≤ (s.ring r).score + 16) :
    s.endRestoreHeader r .failed = s.report r false ∧ s.endRestoreImage r .failed = s.report r false ∧
      s.endRestoreWrite r .failed = s.report r false := by
  have broken := report_ends_broken s r h (by rw [at_]; rfl)
  have still := drainTest_broken _ r broken
  refine ⟨?_, ?_, ?_⟩
  · simp only [State.endRestoreHeader, AccessEnd.ok, broken, still]
  · simp only [State.endRestoreImage, AccessEnd.ok, broken, still]
  · simp only [State.endRestoreWrite, AccessEnd.ok, broken, still]

theorem endRestoreHeader_okay (cell : Nat) (cursor : (s.ring r).cursor = some cell) (data : List Byte) :
    s.endRestoreHeader r (.okay data) =
      let x := { s.ring r with score := (s.ring r).score - 1 }
      { s.setRing r { x with restoreHeader := some data } with
        service := s.service ++ [imageRead (.restoreImage r) x.config cell] } := by
  simp only [State.endRestoreHeader, AccessEnd.ok, report_okay, State.setRing_ring_self, at_, cursor, if_true,
    State.setRing_setRing]
  rfl

theorem endRestoreHeader_failed (cell : Nat) (cursor : (s.ring r).cursor = some cell) :
    s.endRestoreHeader r .failed = if (s.ring r).score < 160 ∧ 160 ≤ (s.ring r).score + 16 then s.report r false
      else (s.report r false).breakRing r .restoreFailed := by
  split
  · next h => exact (endRestore_ends s r at_ h).1
  · next h =>
    simp only [State.endRestoreHeader, AccessEnd.ok, report_goesOn_ring s r h, at_, cursor, Bool.false_eq_true, if_false]

theorem endRestoreImage_okay (header : List Byte) (held : (s.ring r).restoreHeader = some header) (data : List Byte) :
    s.endRestoreImage r (.okay data) =
      let x := { s.ring r with score := (s.ring r).score - 1 }
      if x.restorePasses r header data then
        { s.setRing r { x with restoreImage := some data } with
          service := s.service ++ [⟨.restoreWrite r, .write, BitVec.ofNat 40 (fieldAt header 10 5), 3, data⟩] }
      else (s.setRing r x).breakRing r .checksum := by
  simp only [State.endRestoreImage, AccessEnd.ok, report_okay, State.setRing_ring_self, at_, held, if_true,
    State.setRing_setRing]
  rfl

theorem endRestoreImage_failed (header : List Byte) (held : (s.ring r).restoreHeader = some header) :
    s.endRestoreImage r .failed = if (s.ring r).score < 160 ∧ 160 ≤ (s.ring r).score + 16 then s.report r false
      else (s.report r false).breakRing r .restoreFailed := by
  split
  · next h => exact (endRestore_ends s r at_ h).2.1
  · next h =>
    simp only [State.endRestoreImage, AccessEnd.ok, report_goesOn_ring s r h, at_, held, Bool.false_eq_true, if_false]

end

end

section
variable (s : State) (o : OwnTag) (n : Nat) (r : RingId) (st : MemStatus) (data : List Byte) (hs : s.inReset = false)
include hs

theorem exec_restoreHeader (h : s.ownTag o = .inUse (some (.restoreHeader r)) n) :
    exec (.restoreReadComplete o st data) s =
      .next ((s.setOwnTag o .free).endRestoreHeader r (accessEnd st data)) :=
  (running_eq s _ hs).trans (congrArg _ (answered_eq s o _ _ _ n h rfl))

theorem exec_restoreImage (h : s.ownTag o = .inUse (some (.restoreImage r)) n) :
    exec (.restoreReadComplete o st data) s =
      .next ((s.setOwnTag o .free).endRestoreImage r (accessEnd st data)) :=
  (running_eq s _ hs).trans (congrArg _ (answered_eq s o _ _ _ n h rfl))

theorem exec_restoreWrite (h : s.ownTag o = .inUse (some (.restoreWrite r)) n) :
    exec (.restoreWriteComplete o st) s = .next ((s.setOwnTag o .free).endRestoreWrite r (accessEnd st [])) :=
  (running_eq s _ hs).trans (congrArg _ (answered_eq s o _ _ _ n h rfl))

end

/-- Settles O38: the header read and the image read, OKAY and failed, in the restore and after it. -/
theorem restoreReadOutcome : Obligations.RestoreReadOutcome := by
  intro s o n r st data hs tag
  refine ⟨fun cell at_ tag cursor ok => ?_, fun h at_ tag held ok => ?_, fun cell at_ tag cursor failed => ?_,
    fun h at_ tag held failed => ?_, fun left => ?_⟩
  · subst ok
    rw [exec_restoreHeader s o n r _ data hs tag]
    exact congrArg _ (endRestoreHeader_okay (s.setOwnTag o .free) r at_ cell cursor data)
  · subst ok
    rw [exec_restoreImage s o n r _ data hs tag]
    exact congrArg _ (endRestoreImage_okay (s.setOwnTag o .free) r at_ h held data)
  · rw [exec_restoreHeader s o n r _ data hs tag, accessEnd_failed st data failed]
    exact congrArg _ (endRestoreHeader_failed (s.setOwnTag o .free) r at_ cell cursor)
  · rw [exec_restoreImage s o n r _ data hs tag, accessEnd_failed st data failed]
    exact congrArg _ (endRestoreImage_failed (s.setOwnTag o .free) r at_ h held)
  · obtain ⟨header, image, -⟩ := endRestore_left (s.setOwnTag o .free) r (accessEnd st data) left
    rw [accessEnd_ok] at header image
    rcases tag with tag | tag
    · rw [exec_restoreHeader s o n r _ data hs tag, header]
    · rw [exec_restoreImage s o n r _ data hs tag, image]

/-! ### Restore writes (R110, R111, R113, R118) -/

section
variable (s : State) (r : RingId) (at_ : (s.ring r).phase = .rollingRestore) (cell : Nat) (header image : List Byte)
  (cursor : (s.ring r).cursor = some cell) (held : (s.ring r).restoreHeader = some header)
  (stored : (s.ring r).restoreImage = some image)
include at_ cursor held stored

theorem endRestoreWrite_okay (data : List Byte) : s.endRestoreWrite r (.okay data) =
    (s.setRing r ({ s.ring r with score := (s.ring r).score - 1 }.recordRestored cell)).restoreNext r := by
  simp only [State.endRestoreWrite, AccessEnd.ok, report_okay, State.setRing_ring_self, at_, cursor, held, stored, if_true,
    State.setRing_setRing]

theorem endRestoreWrite_failed : s.endRestoreWrite r .failed =
    if (s.ring r).score < 160 ∧ 160 ≤ (s.ring r).score + 16 then s.report r false
    else if (s.ring r).restoreRetry then (s.report r false).breakRing r .restoreFailed
    else
      { (s.report r false).setRing r { (s.report r false).ring r with restoreRetry := true } with
        service := s.service ++ [⟨.restoreWrite r, .write, BitVec.ofNat 40 (fieldAt header 10 5), 3, image⟩] } := by
  split
  · next h => exact (endRestore_ends s r at_ h).2.2
  · next h =>
    simp only [State.endRestoreWrite, AccessEnd.ok, report_goesOn_ring s r h, at_, cursor, held, stored,
      Bool.false_eq_true, if_false, State.requestRestore, State.requestService, State.setRing_service,
      report_goesOn_service s r h]
    rfl

end

section
variable (s : State) (r : RingId) (x : Ring) (cell : Nat) (cursor : x.cursor = some cell)
include cursor

/-- The restore goes on to the record in the cell at the cursor (R108). -/
theorem restoreNext_reads (h : cell ≠ x.release) : (s.setRing r x).restoreNext r = { s.setRing r x with
    service := s.service ++ [headerRead (.restoreHeader r) x.config cell] } := by
  simp only [State.restoreNext, State.setRing_ring_self, cursor, h, if_false]
  rfl

/-- With the cursor at the release cell the restore ends, once no read is steered (R113). -/
theorem restoreNext_ends (at_ : x.phase = .rollingRestore) (h : cell = x.release) : (s.setRing r x).restoreNext r =
    if x.steered = [] then (s.setRing r x).rollbackMark r else s.setRing r x := by
  simp [State.restoreNext, State.restoreEndTest, cursor, h, at_]

end

/-- Settles O39: the restore write OKAY and failed, in the restore and after it, and the rollback's mark. -/
theorem restoreWriteOutcome : Obligations.RestoreWriteOutcome := by
  refine ⟨fun s o n r st cell q h image hs tag cursor expected held stored => ?_, fun s o n r st hs tag left => ?_,
    fun s r => ?_⟩
  · intro x next y u failed
    have okay (ok : st = .okay) (at_ : x.phase = .rollingRestore) :
        exec (.restoreWriteComplete o st) s = .next ((u.setRing r y).restoreNext r) := by
      subst ok
      rw [exec_restoreWrite s o n r _ hs tag]
      refine congrArg _ ((endRestoreWrite_okay u r at_ cell h image cursor held stored []).trans ?_)
      have stepped : { u.ring r with score := (u.ring r).score - 1 }.recordRestored cell = y := by
        have expected : (u.ring r).expected = some q := expected
        simp only [Ring.recordRestored, Ring.markRestored, expected, Option.map_some]
        rfl
      rw [stepped]
    refine ⟨fun at_ ok more => ?_, fun at_ ok last steered => ?_, fun at_ ok last unsteered => ?_, fun at_ notOk => ?_⟩
    · rw [okay ok at_, restoreNext_reads u r y next rfl more]
      rfl
    · rw [okay ok at_, restoreNext_ends u r y next rfl at_ last]
      exact congrArg _ (if_neg steered)
    · rw [okay ok at_, restoreNext_ends u r y next rfl at_ last]
      exact congrArg _ (if_pos unsteered)
    · rw [exec_restoreWrite s o n r _ hs tag, accessEnd_failed st [] notOk]
      exact congrArg _ (endRestoreWrite_failed u r at_ cell h image cursor held stored)
  · obtain ⟨-, -, write⟩ := endRestore_left (s.setOwnTag o .free) r (accessEnd st []) left
    rw [accessEnd_ok] at write
    rw [exec_restoreWrite s o n r _ hs tag, write]
  · intro x m
    split
    · next exhausted => exact rollbackMark_exhausted s r exhausted
    · next fresh =>
      rw [rollbackMark_reserves s r fresh]
      simp only [epochAfter_eq]
      rfl

/-! ### Steering reads (R113, R122 to R124) -/

section
variable (s : State) (r : RingId) (t : HostTag) (q : Steered) (e : AccessEnd)
  (found : ((s.report r e.ok).ring r).steered.find? (fun p => p.req.tag == t) = some q)
include found

theorem endSteer_left (left : ((s.report r e.ok).ring r).phase.state ≠ .rolling) :
    s.endSteer r t e = ((s.report r e.ok).decide ⟨.ring r, q.req⟩).steerFell r t := by
  simp only [State.endSteer, found, left, if_false]

theorem endSteer_failed (rolling : ((s.report r e.ok).ring r).phase.state = .rolling) (failed : e = .failed) :
    s.endSteer r t e = ((s.report r e.ok).respond t .error []).steerFell r t := by
  subst failed
  simp only [State.endSteer, found, rolling, if_true]

theorem endSteer_header (rolling : ((s.report r e.ok).ring r).phase.state = .rolling) (data : List Byte)
    (okay : e = .okay data) (fresh : q.header = none) : s.endSteer r t e =
      { (s.report r e.ok).setRing r { (s.report r e.ok).ring r with
          steered := ((s.report r e.ok).ring r).steered.map fun p =>
            if p.req.tag = t then { p with header := some data } else p } with
        journal := (s.report r e.ok).journal ++
          [imageRead (.steerImage r t) ((s.report r e.ok).ring r).config q.cell] } := by
  subst okay
  simp only [State.endSteer, found, rolling, if_true, fresh]
  rfl

theorem endSteer_image (rolling : ((s.report r e.ok).ring r).phase.state = .rolling) (data header : List Byte)
    (okay : e = .okay data) (held : q.header = some header) : s.endSteer r t e =
      (if ((s.report r e.ok).ring r).steerPasses r q.req.line header data then
          (s.report r e.ok).respond t .okay (imageBytes q.req data)
        else (s.report r e.ok).respond t .error []).steerFell r t := by
  subst okay
  simp only [State.endSteer, found, rolling, if_true, held]
  split <;> rfl

end

theorem exec_steering (s : State) (o : OwnTag) (n : Nat) (r : RingId) (t : HostTag) (st : MemStatus) (data : List Byte)
    (hs : s.inReset = false)
    (h : s.ownTag o = .inUse (some (.steerHeader r t)) n ∨ s.ownTag o = .inUse (some (.steerImage r t)) n) :
    exec (.steeringReadComplete o st data) s = .next ((s.setOwnTag o .free).endSteer r t (accessEnd st data)) := by
  refine (running_eq s _ hs).trans (congrArg _ ?_)
  rcases h with h | h <;> exact answered_eq s o _ _ _ n h rfl

/-- Settles O40: the header read, the image read and the failed read of a ROLLING ring, and any of a ring that has left it. -/
theorem steeringReadOutcome : Obligations.SteeringReadOutcome := by
  intro s o n r t q st data hs tag
  dsimp only
  rw [exec_steering s o n r t st data hs tag, ← accessEnd_ok st data]
  intro found
  refine ⟨fun rolling ok fresh => ?_, fun h rolling ok held => ?_, fun rolling failed => ?_, fun left => ?_⟩
  · exact congrArg _ (endSteer_header _ r t q _ found rolling data (by rw [ok]; rfl) fresh)
  · exact congrArg _ (endSteer_image _ r t q _ found rolling data h (by rw [ok]; rfl) held)
  · exact congrArg _ (endSteer_failed _ r t q _ found rolling (accessEnd_failed st data failed))
  · exact congrArg _ (endSteer_left _ r t q _ found left)

end Sys2Proof.Machine

/-! The outcomes of the reads of the recovery scan (R132 to R135). -/

namespace Sys2Proof.Machine

open Sys2Proof.Safety

section
variable (s : State) (r : RingId)

/-- A report that does not carry the score to 160 changes the ring in its score alone. -/
theorem report_kept (ok : Bool) (h : ¬(ok = false ∧ (s.ring r).score < 160 ∧ 160 ≤ (s.ring r).score + 16)) :
    (∃ n, (s.report r ok).ring r = { s.ring r with score := n }) ∧ (s.report r ok).service = s.service := by
  cases ok with
  | true =>
    rw [report_okay, State.setRing_ring_self]
    exact ⟨⟨_, rfl⟩, rfl⟩
  | false =>
    have goes : ¬((s.ring r).score < 160 ∧ 160 ≤ (s.ring r).score + 16) := fun reaches => h ⟨rfl, reaches⟩
    exact ⟨⟨_, report_goesOn_ring s r goes⟩, report_goesOn_service s r goes⟩

theorem beq_okay_eq_false (st : MemStatus) : (st == .okay) = false ↔ st ≠ .okay := by cases st <;> decide

/-! ### The search (R132, R133) -/

/-- What a search does after a cell is judged: the next read, and its end when no read is left. -/
def State.searchGoesOn (s : State) (r : RingId) : State :=
  let next := s.searchNext r
  if (next.ring r).scanReads = 0 then next.searchEnd r else next

theorem endSearch_eq (cell : Nat) (e : AccessEnd) (at_ : ((s.report r e.ok).ring r).phase = .openingScan)
    (part : ((s.report r e.ok).ring r).scanPart = some .search) : s.endSearch r cell e =
    let x := (s.report r e.ok).ring r
    let judged := if e.ok then x.judgeMark r cell e.data else x
    ((s.report r e.ok).setRing r { judged with scanReads := x.scanReads - 1 }).searchGoesOn r := by
  simp only [State.endSearch, at_, part]
  rfl

theorem endSearch_ends (cell : Nat) (at_ : (s.ring r).phase = .openingScan)
    (h : (s.ring r).score < 160 ∧ 160 ≤ (s.ring r).score + 16) : s.endSearch r cell .failed = s.report r false := by
  simp only [State.endSearch, AccessEnd.ok, report_ends_closed s r h (by rw [at_]; rfl)]

/-- The judgement of a cell, with the fields of its record. -/
theorem judged_eq (x : Ring) (cell : Nat) (st : MemStatus) (data : List Byte) :
    (if (accessEnd st data).ok then x.judgeMark r cell (accessEnd st data).data else x) =
      let found : NewestMark :=
        { cell, seq := BitVec.ofNat 64 (fieldAt data 16 8), epoch := BitVec.ofNat 32 (fieldAt data 6 4) }
      if st == .okay && x.validMark r data && replaces x.newest found then { x with newest := some found } else x := by
  cases st
  case okay => rfl
  all_goals simp [accessEnd, AccessEnd.ok]

theorem replaces_some (m new : NewestMark) :
    replaces (some m) new = decide (m.seq < new.seq ∨ (m.seq = new.seq ∧ new.cell < m.cell)) := by
  simp only [replaces, Bool.decide_or, Bool.decide_and, Bool.beq_eq_decide_eq]

theorem searchNext_full (h : (s.ring r).config.cells ≤ (s.ring r).searchCell) : s.searchNext r = s := by
  simp only [State.searchNext, decide_eq_false (Nat.not_lt.2 h), Bool.false_and, Bool.false_eq_true, if_false]

section
variable (y : Ring)

/-- While cells are left, the next header is read for the one that has ended. -/
theorem searchGoesOn_requests (cells : y.searchCell < y.config.cells) (least : 1 ≤ y.scanReads) (most : y.scanReads ≤ 4) :
    (s.setRing r { y with scanReads := y.scanReads - 1 }).searchGoesOn r =
      { s.setRing r { y with searchCell := y.searchCell + 1 } with
        service := s.service ++ [headerRead (.searchHeader r y.searchCell) y.config y.searchCell] } := by
  have next : (s.setRing r { y with scanReads := y.scanReads - 1 }).searchNext r =
      { s.setRing r { y with searchCell := y.searchCell + 1 } with
        service := s.service ++ [headerRead (.searchHeader r y.searchCell) y.config y.searchCell] } := by
    refine (searchNext_setRing s r { y with scanReads := y.scanReads - 1 } s.service cells (by dsimp only; omega)).trans ?_
    dsimp only
    rw [Nat.sub_add_cancel least]
  have reads : (((s.setRing r { y with scanReads := y.scanReads - 1 }).searchNext r).ring r).scanReads = y.scanReads := by
    rw [next]
    change ((s.setRing r { y with searchCell := y.searchCell + 1 }).ring r).scanReads = y.scanReads
    rw [State.setRing_ring_self]
  exact (if_neg (by rw [reads]; omega)).trans next

section
variable (full : y.config.cells ≤ y.searchCell)
include full

/-- With no cell left, the search waits for the reads that have not ended. -/
theorem searchGoesOn_waits (more : 2 ≤ y.scanReads) :
    (s.setRing r { y with scanReads := y.scanReads - 1 }).searchGoesOn r =
      s.setRing r { y with scanReads := y.scanReads - 1 } := by
  rw [State.searchGoesOn, searchNext_full _ r (by rwa [State.setRing_ring_self])]
  exact if_neg (by rw [State.setRing_ring_self]; dsimp only; omega)

theorem searchGoesOn_ends (last : y.scanReads = 1) :
    (s.setRing r { y with scanReads := y.scanReads - 1 }).searchGoesOn r =
      (s.setRing r { y with scanReads := 0 }).searchEnd r := by
  rw [last, State.searchGoesOn, searchNext_full _ r (by rwa [State.setRing_ring_self])]
  exact if_pos (by rw [State.setRing_ring_self])

end

/-- A search without a mark fails the open (R133). -/
theorem searchEnd_none (none : y.newest = none) :
    (s.setRing r y).searchEnd r = (s.setRing r y).openFail r .noJournal := by
  simp only [State.searchEnd, State.setRing_ring_self, none]

/-- The walk goes on at the walk cell, or stops at capacity − 2 records and at the end of the numbers (R134). -/
theorem walkNext_eq (m : NewestMark) (cell : Nat) (newest : y.newest = some m) (at_ : y.walkCell = some cell) :
    (s.setRing r y).walkNext r =
      if y.config.cells ≤ y.walkCount + 2 ∨ 2 ^ 64 ≤ m.seq.toNat + y.walkCount + 1 then (s.setRing r y).recoverComplete r m
      else { s.setRing r { y with scanReads := 1, walkHeader := none } with
        service := s.service ++ [headerRead (.walkHeader r) y.config cell] } := by
  simp only [State.walkNext, State.setRing_ring_self, newest, at_, Bool.or_eq_true, decide_eq_true_eq, ge_iff_le,
    State.setRing_setRing]
  rfl

/-- A search with a mark goes on to the walk, at the cell after the mark's (R133). -/
theorem searchEnd_some (m : NewestMark) (newest : y.newest = some m) (cells : 3 ≤ y.config.cells) :
    let first := (m.cell + 1) % y.config.cells
    let walking := { y with scanPart := some .walk, walkCell := some first, walkCount := 0 }
    (s.setRing r y).searchEnd r =
      if m.seq = 0xFFFFFFFFFFFFFFFF then (s.setRing r walking).recoverComplete r m
      else { s.setRing r { walking with scanReads := 1, walkHeader := none } with
        service := s.service ++ [headerRead (.walkHeader r) y.config first] } := by
  intro first walking
  have start : (s.setRing r y).searchEnd r = (s.setRing r walking).walkNext r := by
    have newest : ((s.setRing r y).ring r).newest = some m := by rwa [State.setRing_ring_self]
    rw [State.searchEnd, newest]
    dsimp only
    rw [State.modRing_eq, State.setRing_setRing, State.setRing_ring_self]
    rfl
  have stops : (walking.config.cells ≤ walking.walkCount + 2 ∨ 2 ^ 64 ≤ m.seq.toNat + walking.walkCount + 1) ↔
      m.seq = 0xFFFFFFFFFFFFFFFF := by
    rw [← BitVec.toNat_inj]
    have bound := m.seq.isLt
    have count : walking.walkCount = 0 := rfl
    have same : walking.config.cells = y.config.cells := rfl
    have top : (0xFFFFFFFFFFFFFFFF : Seq).toNat = 2 ^ 64 - 1 := rfl
    omega
  rw [start, walkNext_eq s r walking m first newest rfl]
  simp only [stops]
  rfl

end

theorem exec_search (o : OwnTag) (n cell : Nat) (st : MemStatus) (data : List Byte) (hs : s.inReset = false)
    (h : s.ownTag o = .inUse (some (.searchHeader r cell)) n) :
    exec (.searchReadComplete o st data) s = .next ((s.setOwnTag o .free).endSearch r cell (accessEnd st data)) :=
  (running_eq s _ hs).trans (congrArg _ (answered_eq s o _ _ _ n h rfl))

end

/-- Settles O41: a failed read that fails the open, then the next read, the wait for reads under way, and the end of the
search without and with a mark. -/
theorem searchReadOutcome : Obligations.SearchReadOutcome := by
  intro s o n r cell st data hs tag at_ part least most z x reaches found better y
  have judged : better = replaces x.newest found := by
    unfold better
    cases x.newest with
    | none => rfl
    | some m => exact (replaces_some m found).symm
  have picked : y = if st == .okay && x.validMark r data && replaces x.newest found then { x with newest := some found }
      else x := by
    unfold y
    rw [judged]
  rw [exec_search s r o n cell st data hs tag]
  have ok : (accessEnd st data).ok = (st == .okay) := accessEnd_ok st data
  refine ⟨fun h => ?_, ?_⟩
  · rw [accessEnd_failed st data h.1]
    refine congrArg _ ((endSearch_ends (s.setOwnTag o .free) r cell at_ h.2).trans ?_)
    exact congrArg _ ((beq_okay_eq_false st).2 h.1).symm
  have goes (notReached : ¬reaches) : x.scanReads = (s.ring r).scanReads ∧ z.service = s.service ∧
      (s.setOwnTag o .free).endSearch r cell (accessEnd st data) =
        (z.setRing r { y with scanReads := y.scanReads - 1 }).searchGoesOn r := by
    obtain ⟨⟨score, ring⟩, service⟩ := report_kept (s.setOwnTag o .free) r (st == .okay)
      (fun h => notReached ⟨(beq_okay_eq_false st).1 h.1, h.2⟩)
    have ring : x = { s.ring r with score } := ring
    have kept : y.scanReads = x.scanReads := by
      unfold y
      split <;> rfl
    refine ⟨by rw [ring], service, ?_⟩
    rw [endSearch_eq _ r cell _ (by rw [ok]; exact (congrArg Ring.phase ring).trans at_)
      (by rw [ok]; exact (congrArg Ring.scanPart ring).trans part)]
    dsimp only
    rw [judged_eq, ok, kept, picked]
  have kept : y.searchCell = x.searchCell ∧ y.scanReads = x.scanReads ∧ y.config = x.config := by
    unfold y
    split <;> exact ⟨rfl, rfl, rfl⟩
  obtain ⟨cells, reads, config⟩ := kept
  rw [← config, ← cells, ← reads]
  refine ⟨fun h left => ?_, fun h full more => ?_, fun h full last none => ?_, fun m h full last newest enough => ?_⟩
  all_goals obtain ⟨same, service, eq⟩ := goes h; rw [eq]
  · rw [searchGoesOn_requests z r y left (by omega) (by omega), service]
  · rw [searchGoesOn_waits z r y full more]
  · rw [searchGoesOn_ends z r y full last, searchEnd_none _ r _ (by exact none)]
  · rw [searchGoesOn_ends z r y full last, searchEnd_some z r { y with scanReads := 0 } m newest enough, service]

/-! ### The walk (R134, R135) -/

section
variable (s : State) (r : RingId) (m : NewestMark) (cell : Nat)

section
variable (at_ : (s.ring r).phase = .openingScan)
include at_

theorem endWalk_ends (h : (s.ring r).score < 160 ∧ 160 ≤ (s.ring r).score + 16) :
    s.endWalkHeader r .failed = s.report r false ∧ s.endWalkImage r .failed = s.report r false := by
  have closed := report_ends_closed s r h (by rw [at_]; rfl)
  refine ⟨?_, ?_⟩
  · simp only [State.endWalkHeader, AccessEnd.ok, closed]
  · simp only [State.endWalkImage, AccessEnd.ok, closed]

end

section
variable (e : AccessEnd) (at_ : ((s.report r e.ok).ring r).phase = .openingScan)
  (newest : ((s.report r e.ok).ring r).newest = some m) (walk : ((s.report r e.ok).ring r).walkCell = some cell)
include at_ newest walk

theorem endWalkHeader_eq : s.endWalkHeader r e =
    let z := s.report r e.ok
    let x := z.ring r
    if e.ok && x.walkPasses r m e.data then
      { z.setRing r { x with walkHeader := some e.data } with service := z.service ++ [imageRead (.walkImage r) x.config cell] }
    else z.recoverComplete r m := by
  simp only [State.endWalkHeader, at_, newest, walk]
  rfl

theorem endWalkImage_eq (header : List Byte) (held : ((s.report r e.ok).ring r).walkHeader = some header) :
    s.endWalkImage r e =
    let z := s.report r e.ok
    let x := z.ring r
    if e.ok && (parseHeader header).check == checkOf header e.data then
      (z.setRing r { x with
        walkCount := x.walkCount + 1, walkCell := some ((cell + 1) % x.config.cells), scanReads := 0,
        walkHeader := none }).walkNext r
    else z.recoverComplete r m := by
  simp only [State.endWalkImage, at_, newest, walk, held]
  rfl

end

theorem recoverComplete_eq : s.recoverComplete r m =
    let x := s.ring r
    ((s.setRing r { x with
      release := m.cell, live := x.walkCount + 1, produce := (m.cell + (x.walkCount + 1)) % x.config.cells,
      nextSeq := m.seq + BitVec.ofNat 64 (x.walkCount + 1), frontier := m.seq + BitVec.ofNat 64 x.walkCount,
      epoch := m.epoch, outstanding := [], touched := [], complete := false, highArmed := true, fullArmed := true,
      openMode := none, scanPart := none, searchCell := 0, scanReads := 0, newest := none, walkCell := none,
      walkCount := 0, walkHeader := none, phase := .active, timer := intervalTime x.config.interval }).raise
      (.opened r .recover m.epoch (x.walkCount + 1))).askPass := rfl

end

section
variable (s : State) (o : OwnTag) (n : Nat) (r : RingId) (st : MemStatus) (data : List Byte) (hs : s.inReset = false)
include hs

theorem exec_walkHeader (h : s.ownTag o = .inUse (some (.walkHeader r)) n) :
    exec (.walkReadComplete o st data) s = .next ((s.setOwnTag o .free).endWalkHeader r (accessEnd st data)) :=
  (running_eq s _ hs).trans (congrArg _ (answered_eq s o _ _ _ n h rfl))

theorem exec_walkImage (h : s.ownTag o = .inUse (some (.walkImage r)) n) :
    exec (.walkReadComplete o st data) s = .next ((s.setOwnTag o .free).endWalkImage r (accessEnd st data)) :=
  (running_eq s _ hs).trans (congrArg _ (answered_eq s o _ _ _ n h rfl))

end

/-- Settles O42: the header read, the image read, and the completion of a RECOVER open. -/
theorem walkReadOutcome : Obligations.WalkReadOutcome := by
  refine ⟨fun s o n r m cell st data hs at_ newest walk => ?_, fun s r m => recoverComplete_eq s r m⟩
  intro z x reaches next
  have ok : (accessEnd st data).ok = (st == .okay) := accessEnd_ok st data
  have ended (h : reaches) : (s.setOwnTag o .free).report r false = z :=
    congrArg _ ((beq_okay_eq_false st).2 h.1).symm
  have kept (h : ¬reaches) : (∃ score, x = { s.ring r with score }) ∧ z.service = s.service :=
    report_kept (s.setOwnTag o .free) r (st == .okay) (fun h' => h ⟨(beq_okay_eq_false st).1 h'.1, h'.2⟩)
  refine ⟨fun tag => ?_, fun header tag held => ?_⟩
  · rw [exec_walkHeader s o n r st data hs tag]
    refine congrArg _ ?_
    split
    · next h =>
      rw [accessEnd_failed st data h.1, (endWalk_ends (s.setOwnTag o .free) r at_ h.2).1]
      exact ended h
    · next h =>
      obtain ⟨⟨score, ring⟩, service⟩ := kept h
      rw [endWalkHeader_eq (s.setOwnTag o .free) r m cell (accessEnd st data)
        (by rw [ok]; exact (congrArg Ring.phase ring).trans at_)
        (by rw [ok]; exact (congrArg Ring.newest ring).trans newest)
        (by rw [ok]; exact (congrArg Ring.walkCell ring).trans walk), ok, ← service]
      cases st <;> rfl
  · rw [exec_walkImage s o n r st data hs tag]
    refine congrArg _ ?_
    split
    · next h =>
      rw [accessEnd_failed st data h.1, (endWalk_ends (s.setOwnTag o .free) r at_ h.2).2]
      exact ended h
    · next h =>
      obtain ⟨⟨score, ring⟩, service⟩ := kept h
      rw [endWalkImage_eq (s.setOwnTag o .free) r m cell (accessEnd st data)
        (by rw [ok]; exact (congrArg Ring.phase ring).trans at_)
        (by rw [ok]; exact (congrArg Ring.newest ring).trans newest)
        (by rw [ok]; exact (congrArg Ring.walkCell ring).trans walk) header
        (by rw [ok]; exact (congrArg Ring.walkHeader ring).trans held), ok, ← service]
      have passes : ((st == .okay) && (parseHeader header).check == checkOf header (accessEnd st data).data) = true ↔
          st = .okay ∧ fieldAt header 28 4 = (crc32 (header.take 28 ++ data)).toNat := by
        rw [Bool.and_eq_true, beq_iff_eq, beq_iff_eq, check_passes]
        refine and_congr_right fun okay => ?_
        rw [okay]
        rfl
      simp only [passes]
      rw [walkNext_eq z r _ m next (by exact (congrArg Ring.newest ring).trans newest) rfl]
      rfl

end Sys2Proof.Machine

/-! The classifier (chapters 2 and 5): regions, the line and context tests, the acts of an arrival, and HOST_REQUEST. -/

namespace Sys2Proof.Machine

open Sys2Proof.Safety

/-! ### HOST_REQUEST (R26, R154) -/

section
variable (s : State) (q : HostRequest)

theorem hostReady_eq_false
    (h : 16 ≤ s.hold.length ∨ 4 ≤ s.forward.length ∨ ∃ d ∈ s.decided, d.source = .classifier) : s.hostReady = false := by
  rw [Bool.eq_false_iff]
  intro ready
  simp only [State.hostReady, Config.holdPlaces, Config.forwardPlaces, Bool.and_eq_true, decide_eq_true_eq,
    Bool.not_eq_true', List.any_eq_false, beq_iff_eq] at ready
  obtain ⟨⟨⟨-, hold⟩, forward⟩, waiting⟩ := ready
  rcases h with h | h | ⟨d, mem, source⟩
  · omega
  · omega
  · exact waiting d mem source

/-- A request that is decided while the forward buffer has room joins it at once (R159). -/
theorem decide_room (d : Decided) (room : s.forward.length < 4) : s.decide d = { s with forward := s.forward ++ [d.req] } :=
  if_pos room

/-- A legal request with a free tag is forwarded or classified, by the mode (R26). -/
theorem takeRequest_legal (ready : s.hostReady = true) (free : s.tagEntry q.tag = none) (legal : q.legal = true) :
    s.takeRequest q =
      let z := s.setTag q.tag (some { kind := q.kind, counted := none, atMemory := false })
      match z.mode with
      | .config => z.decide ⟨.classifier, q⟩
      | .run => z.arrive q := by
  simp only [State.takeRequest, ready, free, legal, if_true] <;> rfl

end

/-- Settles O45: no request is taken while the port is not ready; one that is taken is forwarded in CONFIG and classified in
RUN. -/
theorem hostRequestIsTaken : Obligations.HostRequestIsTaken := by
  intro s q hs
  rw [exec_hostRequest s q hs]
  refine ⟨fun h => ?_, fun hold forward waiting free size aligned => ?_⟩
  · rw [State.takeRequest, hostReady_eq_false s h]
    rfl
  · have ready := hostReady_eq_true s hs hold forward waiting
    have legal := (legal_iff q).2 ⟨size, aligned⟩
    rw [takeRequest_legal s q ready free legal]
    refine congrArg _ ?_
    dsimp only
    split
    · next config =>
      exact (decide_room (s.setTag q.tag (some { kind := q.kind, counted := none, atMemory := false })) _ forward).trans
        (if_pos config).symm
    · next run =>
      have run : s.mode = .run := run
      exact (if_neg (by rw [run]; decide)).symm

/-! ### Matching (R32) -/

theorem matches_iff (g : Region) (a : Addr) : g.matches a = true ↔ g.enable = true ∧ a &&& g.mask = g.base &&& g.mask := by
  rw [Region.matches, Bool.and_eq_true, beq_iff_eq]

section
variable {α : Type} {n : Nat} (v : Vector α n) (p : α → Bool)

theorem vec_find?_eq_none : v.toList.find? p = none ↔ ∀ i, p (v.get i) = false := by
  rw [vec_toList_eq_ofFn, List.find?_eq_none]
  simp [List.mem_ofFn]

/-- The first element of a vector that satisfies a test is the one of lowest index. -/
theorem vec_find?_eq_some (x : α) :
    v.toList.find? p = some x ↔ ∃ i, v.get i = x ∧ p (v.get i) = true ∧ ∀ j, j < i → p (v.get j) = false := by
  rw [vec_toList_eq_ofFn, List.find?_eq_some_iff_getElem]
  constructor
  · rintro ⟨holds, i, len, rfl, first⟩
    have bound : i < n := by simpa using len
    rw [List.getElem_ofFn] at holds
    refine ⟨⟨i, bound⟩, by simp, holds, fun j less => ?_⟩
    have before := first j.val less
    rwa [List.getElem_ofFn, Bool.not_eq_true'] at before
  · rintro ⟨i, rfl, holds, first⟩
    refine ⟨holds, i.val, by simp, by simp, fun j less => ?_⟩
    rw [List.getElem_ofFn, first ⟨j, by omega⟩ less]
    rfl

end

/-! ### The line test and the context test (R75, R77) -/

section
variable (s : State) (ahead : List HoldEntry)

theorem lineHeld_iff (line : Addr) : s.lineHeld ahead line = true ↔
    (∃ k x, s.ctx k = some x ∧ x.req.line = line) ∨ ∃ h ∈ ahead, h.req.line = line := by
  rw [State.lineHeld, Bool.or_eq_true]
  refine or_congr ?_ (by simp)
  rw [← not_iff_not, Bool.not_eq_true, vec_any_eq_false]
  constructor
  · rintro none ⟨k, x, at_, same⟩
    have off := none k
    rw [show s.contexts.get k = some x from at_] at off
    exact beq_eq_false_iff_ne.1 off same
  · intro none k
    split
    · next x at_ => exact beq_eq_false_iff_ne.2 fun same => none ⟨k, x, at_, same⟩
    · rfl

theorem freeCtx_eq_none : s.freeCtx = none ↔ ∀ k, s.ctx k ≠ none := by
  simp [State.freeCtx, Option.isNone_iff_eq_none]

theorem contextFor_eq_none : s.contextFor ahead = none ↔ (∃ h ∈ ahead, h.reason = .context) ∨ ∀ k, s.ctx k ≠ none := by
  rw [← freeCtx_eq_none, State.contextFor]
  split
  · next waits => simpa using .inl (by simpa using waits)
  · next waits =>
    have none : ¬∃ h ∈ ahead, h.reason = .context := by simpa using waits
    exact (or_iff_right none).symm

end

/-! ### Taking a context, and steering (R42, R44, R57, R69, R121) -/

section
variable (s : State) (r : RingId) (q : HostRequest)

theorem countWrite_some (t : HostTag) (e : TagEntry) (held : s.tagEntry t = some e) : s.countWrite r t =
    (s.setRing r { s.ring r with inFlight := (s.ring r).inFlight + 1 }).setTag t (some { e with counted := some r }) := by
  simp only [State.countWrite, held, State.modRing_eq]

theorem takeContext_eq (c : CtxId) : s.takeContext c r q =
    { (s.countWrite r q.tag).setCtx c (some
        { req := q, ring := some r, phase := .preRead, image := none, reserved := none, retryUsed := false,
          access := .waiting, stopped := false }) with
      journal := s.journal ++ [⟨.preRead c, .read, q.line, 3, []⟩] } := by
  have journal : (s.countWrite r q.tag).journal = s.journal := by rw [countWrite_eq]
  rw [State.takeContext, countWrite_setCtx, State.requestJournal, ← journal]
  rfl

theorem steerRead_left (left : (s.ring r).phase.state ≠ .rolling) : s.steerRead r q = s.decide ⟨.ring r, q⟩ := if_neg left

section
variable (rolling : (s.ring r).phase.state = .rolling)
include rolling

theorem steerRead_incomplete (h : (s.ring r).complete = false) : s.steerRead r q = s.respond q.tag .retry [] := by
  simp only [State.steerRead, rolling, h, if_true, Bool.false_eq_true, if_false]

theorem steerRead_untracked (h : (s.ring r).complete = true) (untracked : ∀ t ∈ (s.ring r).touched, t.line ≠ q.line) :
    s.steerRead r q = s.decide ⟨.ring r, q⟩ := by
  have none : (s.ring r).touchedEntry q.line = none := by simpa [Ring.touchedEntry] using untracked
  simp only [State.steerRead, rolling, h, if_true, none]

theorem steerRead_tracked (h : (s.ring r).complete = true) (t : TouchedEntry)
    (found : (s.ring r).touched.find? (fun t => t.line == q.line) = some t) : s.steerRead r q =
      if t.restored then s.decide ⟨.ring r, q⟩ else
        { s.setRing r { s.ring r with
            steered := (s.ring r).steered ++ [{ req := q, cell := t.cell, header := none }] } with
          journal := s.journal ++ [headerRead (.steerHeader r q.tag) (s.ring r).config t.cell] } := by
  have found : (s.ring r).touchedEntry q.line = some t := found
  simp only [State.steerRead, rolling, h, if_true, found]
  rfl

end

end

/-- Settles O46: matching, the two tests, counting, taking a context, and a read handed over for steering. -/
theorem classifierTests : Obligations.ClassifierTests := by
  refine ⟨fun s a => ?_, fun s ahead q r c e held => ?_⟩
  · intro hits
    have hit (i : Fin 12) : (s.regions.get i).matches a = true ↔ hits i := matches_iff _ a
    have miss (i : Fin 12) : (s.regions.get i).matches a = false ↔ ¬hits i := by rw [← hit, Bool.not_eq_true]
    refine ⟨?_, fun g => ?_⟩
    · rw [State.regionFor, vec_find?_eq_none]
      exact forall_congr' miss
    · rw [State.regionFor, vec_find?_eq_some]
      simp only [hit, miss]
      rfl
  · refine ⟨lineHeld_iff s ahead q.line, contextFor_eq_none s ahead, contextFor_free s ahead, countWrite_some s r q.tag e held,
      takeContext_eq s r q c, steerRead_left s r q, steerRead_incomplete s r q, fun rolling complete => ⟨?_, ?_⟩⟩
    · exact steerRead_untracked s r q rolling complete
    · exact steerRead_tracked s r q rolling complete

/-! ### Arrivals (R33 to R36, R38, R76) -/

section
variable (s : State) (q : HostRequest)

/-- A request outside every region, or of a PASS region, is forwarded and names no ring (R33). -/
theorem classified_pass (h : s.regionFor q.addr = none ∨ ∃ g, s.regionFor q.addr = some g ∧ g.cls = .pass) :
    s.treatment q = .forward ∧ s.ringFor q = none := by
  rcases h with h | ⟨g, h, cls⟩
  · simp only [State.treatment, State.ringFor, h, and_self]
  · simp only [State.treatment, State.ringFor, h, cls, and_self]

/-- A read of a GUARD region is forwarded, a write is answered ERROR (R34). -/
theorem classified_guard (g : Region) (h : s.regionFor q.addr = some g) (cls : g.cls = .guard) :
    s.treatment q = (if q.kind = .read then .forward else .answer .error) ∧ s.ringFor q = none := by
  refine ⟨?_, by simp only [State.ringFor, h, cls]⟩
  simp only [State.treatment, h, cls]
  cases q.kind <;> rfl

/-- A request of a JOURNAL region is treated by the state of the region's ring (R35). -/
theorem classified_journal (g : Region) (h : s.regionFor q.addr = some g) (cls : g.cls = .journal) :
    s.treatment q = journalTreatment q.kind g.ring (s.ring g.ring).phase.state ∧ s.ringFor q = some g.ring := by
  have named : s.ringFor q = some g.ring := by simp only [State.ringFor, h, cls]
  exact ⟨treatment_of_ring s q g.ring named, named⟩

variable (src : Source)

theorem proceed_uncounted (ring : Option RingId) (h : ring = none ∨ q.kind = .read) :
    s.proceed src ring q = s.decide ⟨src, q⟩ := by
  unfold State.proceed
  rcases h with rfl | h
  · cases q.kind <;> rfl
  · rw [h]

theorem proceed_counted (r : RingId) (h : q.kind = .write) :
    s.proceed src (some r) q = (s.countWrite r q.tag).decide ⟨src, q⟩ := by
  simp only [State.proceed, h]

end

/-- Settles O47: by the class of the region, the kind of the request, and the state of a JOURNAL region's ring. -/
theorem arrivalInRunMode : Obligations.ArrivalInRunMode := by
  intro s q lined sent
  cases region : s.regionFor q.addr with
  | none =>
    obtain ⟨treat, ring⟩ := classified_pass s q (.inl region)
    simp only [State.arrive, treat, ring, proceed_uncounted s q _ none (.inl rfl)]
    rfl
  | some g =>
    cases cls : g.cls with
    | pass =>
      obtain ⟨treat, ring⟩ := classified_pass s q (.inr ⟨g, region, cls⟩)
      simp only [State.arrive, treat, ring, proceed_uncounted s q _ none (.inl rfl), Option.map_some, cls]
      rfl
    | guard =>
      obtain ⟨treat, ring⟩ := classified_guard s q g region cls
      cases kind : q.kind
      all_goals simp only [State.arrive, treat, ring, kind, proceed_uncounted s q _ none (.inl rfl), Option.map_some, cls,
        if_true, reduceCtorEq, if_false]
      all_goals rfl
    | journal =>
      obtain ⟨treat, ring⟩ := classified_journal s q g region cls
      cases kind : q.kind with
      | read =>
        have uncounted := proceed_uncounted s q .classifier (some g.ring) (.inr kind)
        cases state : (s.ring g.ring).phase.state
        all_goals simp only [State.arrive, treat, ring, kind, state, journalTreatment, uncounted, Option.map_some, cls, if_true,
          reduceCtorEq, if_false]
        all_goals rfl
      | write =>
        have counted := proceed_counted s q .classifier g.ring kind
        cases state : (s.ring g.ring).phase.state
        all_goals simp only [State.arrive, treat, ring, kind, state, journalTreatment, counted, Option.map_some, cls,
          Ring.tracked]
        all_goals rfl

end Sys2Proof.Machine

/-! The hold queue's passes (R40, R78, R79), and the return of responses (R158, R160). -/

namespace Sys2Proof.Machine

open Sys2Proof.Safety

/-! ### One visit, and what the pass then does (R78, R79) -/

/-- What a pass does after a visit. -/
def State.afterVisit (s : State) (ahead younger : List HoldEntry) : Visit → State
  | .stays e => s.passOver (ahead ++ [e]) younger
  | .leaves t => t.passOver ahead younger
  | .stops e => { s with hold := ahead ++ e :: younger, passStopped := true }

section
variable (s : State) (ahead younger : List HoldEntry) (e : HoldEntry)

theorem passOver_nil : s.passOver ahead [] = { s with hold := ahead, passStopped := false } := rfl

theorem passOver_cons : s.passOver ahead (e :: younger) = s.afterVisit ahead younger (s.visit ahead e) := by
  rw [State.passOver]
  cases s.visit ahead e <;> rfl

theorem visit_config (config : s.mode = .config) : s.visit ahead e =
    if s.forward.length < 4 then .leaves { s with forward := s.forward ++ [e.req] } else .stops e := by
  have visited : s.visit ahead e = s.visitConfig e := by simp only [State.visit, config]
  rw [visited, State.visitConfig]
  split
  · next room => rw [decide_room s _ room]
  · rfl

theorem visit_run (run : s.mode = .run) : s.visit ahead e = s.visitRun ahead e := by simp only [State.visit, run]

/-- An entry that proceeds joins the forward buffer, or stops the pass when the buffer is full (R79). -/
theorem afterVisit_forward (ring : Option RingId) (z : State)
    (proceeds : s.proceed .classifier ring e.req = z.decide ⟨.classifier, e.req⟩) (same : z.forward = s.forward) :
    s.afterVisit ahead younger (s.visitForward e ring) =
      if s.forward.length < 4 then { z with forward := s.forward ++ [e.req] }.passOver ahead younger
      else { s with hold := ahead ++ { e with ring } :: younger, passStopped := true } := by
  rw [State.visitForward]
  split
  · next room =>
    have room : s.forward.length < 4 := room
    rw [proceeds, decide_room z _ (by rwa [same]), same]
    rfl
  · rfl

end

/-! ### A pass in CONFIG (R26) -/

/-- A pass in CONFIG forwards the oldest entries, as far as the forward buffer has room. -/
theorem passOver_config (es : List HoldEntry) : ∀ (s : State) (ahead : List HoldEntry), s.mode = .config →
    s.passOver ahead es = { s with
      hold := ahead ++ es.drop (4 - s.forward.length), passStopped := decide (4 - s.forward.length < es.length),
      forward := s.forward ++ (es.take (4 - s.forward.length)).map (·.req) } := by
  induction es with
  | nil =>
    intro s ahead config
    simp [passOver_nil]
  | cons e es ih =>
    intro s ahead config
    rw [passOver_cons, visit_config s ahead e config]
    split
    · next room =>
      have places : 4 - s.forward.length = 3 - s.forward.length + 1 := by omega
      refine (ih { s with forward := s.forward ++ [e.req] } ahead config).trans ?_
      simp [places]
    · next full =>
      have none : 4 - s.forward.length = 0 := by omega
      simp [State.afterVisit, none]

/-! ### What a pass in RUN keeps -/

/-- What the tests of a pass look at stays: the phase and the touched-line set of every ring, and the contexts in use. -/
structure State.KeepsTests (s t : State) : Prop where
  phase (r : RingId) : (t.ring r).phase = (s.ring r).phase
  touched (r : RingId) : (t.ring r).touched = (s.ring r).touched
  ctx (c : CtxId) (x : Context) : s.ctx c = some x → t.ctx c = some x

theorem Placed.keepsTests {s u : State} {q : HostRequest} (h : Placed s q u) : s.KeepsTests u := by
  have counts (v : State) (r p : RingId) (rings : v.rings = s.rings) :
      ((v.countWrite r q.tag).ring p).phase = (s.ring p).phase ∧
        ((v.countWrite r q.tag).ring p).touched = (s.ring p).touched := by
    obtain ⟨n, same⟩ := countWrite_ring v p r q.tag
    rw [same, show v.ring p = s.ring p by rw [State.ring, rings]; rfl]
    exact ⟨rfl, rfl⟩
  have rings (p : RingId) : (u.ring p).phase = (s.ring p).phase ∧ (u.ring p).touched = (s.ring p).touched := by
    cases h with
    | answered st data => exact ⟨rfl, rfl⟩
    | decided src => rw [State.decide_ring]; exact ⟨rfl, rfl⟩
    | counted src r => rw [State.decide_ring]; exact counts s r p rfl
    | steered r cell =>
      rw [State.setRing_ring]
      split
      · next same => subst same; exact ⟨rfl, rfl⟩
      · exact ⟨rfl, rfl⟩
    | context k r free active => exact counts (s.setCtx k _) r p rfl
  refine ⟨fun r => (rings r).1, fun r => (rings r).2, fun c x used => ?_⟩
  rcases h.ctx c with same | ⟨r, free, -⟩
  · rw [same, used]
  · rw [used] at free
    cases free

section
variable (s t : State) (ahead : List HoldEntry) (e : HoldEntry) (leaves : s.visit ahead e = .leaves t)
include leaves

theorem visit_leaves_keeps : s.KeepsTests t ∧ t.mode = s.mode := by
  have allowed := visit_allowed s ahead e
  rw [leaves] at allowed
  obtain ⟨u, placed, same⟩ := allowed
  obtain ⟨phase, touched, ctx⟩ := placed.keepsTests
  have ring (r : RingId) : t.ring r = u.ring r := by simp only [State.ring, same.rings]
  have context (c : CtxId) : t.ctx c = u.ctx c := by simp only [State.ctx, same.contexts]
  refine ⟨⟨fun r => by rw [ring, phase], fun r => by rw [ring, touched], fun c x used => by rw [context, ctx c x used]⟩, ?_⟩
  rw [same.mode]
  exact congrArg Prod.fst placed.settings

theorem visit_leaves_passAsked : t.passAsked = s.passAsked := by
  have decides (u : State) (d : Decided) : (u.decide d).passAsked = u.passAsked := by rw [State.decide_eq]
  have counts (u : State) (r : RingId) (h : HostTag) : (u.countWrite r h).passAsked = u.passAsked := by rw [countWrite_eq]
  have proceeds (src : Source) (ring : Option RingId) : (s.proceed src ring e.req).passAsked = s.passAsked := by
    unfold State.proceed
    split
    · rw [decides, counts]
    all_goals rw [decides]
  have steers (r : RingId) : (s.steerRead r e.req).passAsked = s.passAsked := by
    unfold State.steerRead
    dsimp only
    split_ifs
    · split
      · exact decides ..
      · split
        · exact decides ..
        · rfl
    · rfl
    · exact decides ..
  have takes (c : CtxId) (r : RingId) : (s.takeContext c r e.req).passAsked = s.passAsked := counts _ _ _
  have forwards (ring : Option RingId) (h : s.visitForward e ring = .leaves t) : t.passAsked = s.passAsked := by
    unfold State.visitForward at h
    split at h
    · cases h; exact proceeds ..
    · cases h
  unfold State.visit State.visitConfig State.visitRun at leaves
  split at leaves
  · split at leaves
    · cases leaves; exact decides ..
    · cases leaves
  · split at leaves
    · cases leaves
    · dsimp only at leaves
      split at leaves
      · cases leaves; rfl
      · cases leaves
      · cases leaves
      · exact forwards _ leaves
      · cases leaves; exact steers _
      · split at leaves
        · exact forwards _ leaves
        · split at leaves
          · cases leaves; exact takes ..
          · cases leaves

end

theorem passOver_passAsked (es : List HoldEntry) : ∀ (s : State) (ahead : List HoldEntry),
    (s.passOver ahead es).passAsked = s.passAsked := by
  induction es with
  | nil => exact fun s ahead => rfl
  | cons e es ih =>
    intro s ahead
    rw [passOver_cons]
    cases visited : s.visit ahead e with
    | stays e' => exact ih s _
    | leaves t => exact (ih t ahead).trans (visit_leaves_passAsked s t ahead e visited)
    | stops e' => rfl

/-- A pass keeps the order of the entries that it leaves held. -/
theorem passOver_sublist (es : List HoldEntry) : ∀ (s : State) (ahead : List HoldEntry),
    ((s.passOver ahead es).hold.map (·.req)).Sublist ((ahead ++ es).map (·.req)) := by
  induction es with
  | nil =>
    intro s ahead
    rw [List.append_nil]
    exact .refl _
  | cons e es ih =>
    intro s ahead
    have allowed := visit_allowed s ahead e
    rw [passOver_cons]
    cases visited : s.visit ahead e with
    | stays e' =>
      rw [visited] at allowed
      have rest := ih s (ahead ++ [e'])
      simpa [State.afterVisit, allowed.1] using rest
    | leaves t =>
      refine (ih t ahead).trans ?_
      rw [List.map_append, List.map_append]
      exact (List.Sublist.refl _).append ((List.sublist_cons_self e es).map _)
    | stops e' =>
      rw [visited] at allowed
      simp [State.afterVisit, allowed.1]

/-! ### Why an entry is still held after a pass (R78, R81) -/

/-- The reason for which an entry is held, behind the older entries, is the one that it carries. -/
def State.HeldRightly (s : State) (older : List HoldEntry) (e : HoldEntry) : Prop :=
  match e.reason with
  | .line => s.lineHeld older e.req.line = true
  | .mark => ∃ r, e.ring = some r ∧ (s.ring r).phase.state = .checkpointing
  | .close => ∃ r, e.ring = some r ∧ (s.ring r).phase.state = .closing
  | .context => ∃ r, e.ring = some r ∧ (s.ring r).phase = .active ∧ (s.ring r).tracked e.req.line = false ∧
    ((∃ h ∈ older, h.reason = .context) ∨ ∀ c, s.ctx c ≠ none)

/-- Every entry of a list is held rightly behind those before it. -/
def State.AllHeldRightly (s : State) (held : List HoldEntry) : Prop :=
  ∀ older e younger, held = older ++ e :: younger → s.HeldRightly older e

section
variable (s t : State)

theorem State.KeepsTests.heldRightly (h : s.KeepsTests t) (older : List HoldEntry) (e : HoldEntry)
    (held : s.HeldRightly older e) : t.HeldRightly older e := by
  obtain ⟨phase, touched, ctx⟩ := h
  unfold State.HeldRightly at held ⊢
  cases reason : e.reason with
  | line =>
    simp only [reason] at held ⊢
    rw [lineHeld_iff] at held ⊢
    exact held.imp_left fun ⟨k, x, used, same⟩ => ⟨k, x, ctx k x used, same⟩
  | mark =>
    simp only [reason, phase] at held ⊢
    exact held
  | close =>
    simp only [reason, phase] at held ⊢
    exact held
  | context =>
    simp only [reason, phase, Ring.tracked, touched] at held ⊢
    obtain ⟨r, named, active, untracked, waits⟩ := held
    refine ⟨r, named, active, untracked, waits.imp_right fun used c none => ?_⟩
    obtain ⟨x, at_⟩ := Option.ne_none_iff_exists'.1 (used c)
    rw [ctx c x at_] at none
    cases none

/-- A treatment that waits for its ring says what the ring is doing (R35). -/
theorem treatment_holdMark (q : HostRequest) (h : s.treatment q = .holdMark) :
    ∃ r, s.ringFor q = some r ∧ (s.ring r).phase.state = .checkpointing := by
  obtain ⟨write, r, named, -⟩ := treatment_waits s q 0 (.inl h)
  rw [treatment_of_ring s q r named, write] at h
  refine ⟨r, named, ?_⟩
  cases state : (s.ring r).phase.state
  case checkpointing => rfl
  all_goals
    rw [state] at h
    cases h

theorem treatment_holdClose (q : HostRequest) (h : s.treatment q = .holdClose) :
    ∃ r, s.ringFor q = some r ∧ (s.ring r).phase.state = .closing := by
  obtain ⟨write, r, named, -⟩ := treatment_waits s q 0 (.inr (.inl h))
  rw [treatment_of_ring s q r named, write] at h
  refine ⟨r, named, ?_⟩
  cases state : (s.ring r).phase.state
  case closing => rfl
  all_goals
    rw [state] at h
    cases h

theorem visitForward_ne_stays (e e' : HoldEntry) (ring : Option RingId) : s.visitForward e ring ≠ .stays e' := by
  unfold State.visitForward
  split <;> exact Visit.noConfusion

/-- An entry that a visit leaves held carries the reason that holds it. -/
theorem visitRun_stays (ahead : List HoldEntry) (e e' : HoldEntry) (h : s.visitRun ahead e = .stays e') :
    s.HeldRightly ahead e' := by
  unfold State.visitRun at h
  split at h
  · next behind =>
    cases h
    exact behind
  · dsimp only at h
    split at h
    · cases h
    · next treat =>
      cases h
      exact treatment_holdMark s e.req treat
    · next treat =>
      cases h
      exact treatment_holdClose s e.req treat
    · exact (visitForward_ne_stays _ _ _ _ h).elim
    · cases h
    · next r treat =>
      obtain ⟨named, active⟩ := treatment_lookUp s e.req r treat
      split at h
      · exact (visitForward_ne_stays _ _ _ _ h).elim
      · next untracked =>
        split at h
        · cases h
        · next none =>
          cases h
          exact ⟨r, named, active, by rwa [Bool.not_eq_true] at untracked, (contextFor_eq_none s ahead).1 none⟩

theorem State.AllHeldRightly.append (held : List HoldEntry) (e : HoldEntry) (all : s.AllHeldRightly held)
    (last : s.HeldRightly held e) : s.AllHeldRightly (held ++ [e]) := by
  intro older f younger split
  rcases List.eq_nil_or_concat younger with rfl | ⟨before, g, rfl⟩
  · obtain ⟨rfl, same⟩ := List.append_inj' split rfl
    obtain ⟨rfl, -⟩ := List.cons.inj same
    exact last
  · rw [List.concat_eq_append, ← List.cons_append, ← List.append_assoc] at split
    exact all older f before (List.append_inj' split rfl).1

end

/-- A pass in RUN that does not stop leaves an entry held only for the reason that it carries. -/
theorem passOver_heldRightly (es : List HoldEntry) : ∀ (s : State) (ahead : List HoldEntry), s.mode = .run →
    s.AllHeldRightly ahead → (s.passOver ahead es).passStopped = false →
    (s.passOver ahead es).AllHeldRightly (s.passOver ahead es).hold := by
  induction es with
  | nil => exact fun s ahead run all _ => all
  | cons e es ih =>
    intro s ahead run all goes
    rw [passOver_cons] at goes ⊢
    cases visited : s.visit ahead e with
    | stays e' =>
      rw [visited] at goes
      refine ih s (ahead ++ [e']) run (all.append s ahead e' ?_) goes
      rw [visit_run s ahead e run] at visited
      exact visitRun_stays s ahead e e' visited
    | leaves t =>
      rw [visited] at goes
      obtain ⟨keeps, mode⟩ := visit_leaves_keeps s t ahead e visited
      exact ih t ahead (mode.trans run)
        (fun older f younger split => keeps.heldRightly s t older f (all older f younger split)) goes
    | stops e' =>
      rw [visited] at goes
      cases goes

/-! ### RE_EVALUATION -/

theorem exec_reEvaluation (s : State) (hs : s.inReset = false) : exec .reEvaluation s = .next s.makePass :=
  running_eq s _ hs

/-- Settles O48: the pass in CONFIG, what a pass in RUN keeps and leaves held, and one visit in RUN by the class of the
region, the kind of the request, and the state of a JOURNAL region's ring. -/
theorem reEvaluationPass : Obligations.ReEvaluationPass := by
  refine ⟨fun s hs => ⟨fun none => ?_, fun asked config => ?_, fun asked run => ?_⟩, passOver_nil, ?_⟩
  · rw [exec_reEvaluation s hs, State.makePass, none]
    rfl
  · rw [exec_reEvaluation s hs, State.makePass, asked]
    exact congrArg _ (passOver_config s.hold { s with passAsked := false } [] config)
  · have made : s.makePass = { s with passAsked := false }.passOver [] s.hold := by rw [State.makePass, if_pos asked]
    refine ⟨_, exec_reEvaluation s hs, made, ?_⟩
    rw [made]
    refine ⟨passOver_passAsked s.hold _ [], passOver_sublist s.hold _ [], fun older e younger goes held => ?_⟩
    have none : State.AllHeldRightly { s with passAsked := false } [] := fun older e younger h => by simp at h
    exact passOver_heldRightly s.hold { s with passAsked := false } [] run none goes older e younger held
  · intro s ahead younger e run stays leaves sent
    have forwards (ring : Option RingId) (z : State)
        (proceeds : s.proceed .classifier ring e.req = z.decide ⟨.classifier, e.req⟩) (same : z.forward = s.forward) :
        s.afterVisit ahead younger (s.visitForward e ring) = sent ring z :=
      afterVisit_forward s ahead younger e ring z proceeds same
    have uncounted (ring : Option RingId) (h : ring = none ∨ e.req.kind = .read) :=
      forwards ring s (proceed_uncounted s e.req .classifier ring h) rfl
    rw [passOver_cons, visit_run s ahead e run, State.visitRun]
    by_cases behind : s.lineHeld ahead e.req.line = true
    · rw [if_pos behind, if_pos behind]
      rfl
    · rw [if_neg behind, if_neg behind]
      cases region : s.regionFor e.req.addr with
      | none =>
        obtain ⟨treat, ring⟩ := classified_pass s e.req (.inl region)
        simp only [treat, ring, uncounted none (.inl rfl)]
        all_goals rfl
      | some g =>
        cases cls : g.cls with
        | pass =>
          obtain ⟨treat, ring⟩ := classified_pass s e.req (.inr ⟨g, region, cls⟩)
          simp only [treat, ring, uncounted none (.inl rfl), Option.map_some, cls]
        | guard =>
          obtain ⟨treat, ring⟩ := classified_guard s e.req g region cls
          cases kind : e.req.kind
          all_goals simp only [treat, ring, kind, uncounted none (.inl rfl), Option.map_some, cls, if_true, reduceCtorEq,
            if_false]
          all_goals rfl
        | journal =>
          obtain ⟨treat, ring⟩ := classified_journal s e.req g region cls
          cases kind : e.req.kind with
          | read =>
            have uncounted := uncounted (some g.ring) (.inr kind)
            cases state : (s.ring g.ring).phase.state
            all_goals simp only [treat, ring, kind, state, journalTreatment, uncounted, Option.map_some, cls, if_true,
              reduceCtorEq, if_false]
            all_goals rfl
          | write =>
            have counted := forwards (some g.ring) (s.countWrite g.ring e.req.tag)
              (proceed_counted s e.req .classifier g.ring kind) (by rw [countWrite_eq])
            cases state : (s.ring g.ring).phase.state
            case active =>
              simp only [treat, ring, kind, state, journalTreatment, Option.map_some, cls, Ring.tracked]
              split
              · exact counted
              · cases s.contextFor ahead <;> rfl
            all_goals simp only [treat, ring, kind, state, journalTreatment, counted, Option.map_some, cls]
            all_goals rfl

/-! ### MEMORY_RESPONSE and RESPONSE_RETURN (R158, R160) -/

section
variable (s : State) (h : HostTag) (st : MemStatus) (data : List Byte)

theorem hostMemoryResponse_ignored (none : s.tagEntry h = none ∨ ∃ e, s.tagEntry h = some e ∧ e.atMemory = false) :
    s.hostMemoryResponse h st data = s := by
  rcases none with none | ⟨e, held, away⟩
  · simp only [State.hostMemoryResponse, none]
  · simp only [State.hostMemoryResponse, held, away, Bool.false_eq_true, if_false]

theorem hostMemoryResponse_taken (e : TagEntry) (held : s.tagEntry h = some e) (there : e.atMemory = true) :
    s.hostMemoryResponse h st data = (s.setTag h (some { e with atMemory := false })).respond h
      (if st = .okay then .okay else .error) (if st = .okay ∧ e.kind = .read then data else []) := by
  rw [State.hostMemoryResponse, held]
  dsimp only
  rw [if_pos there]
  cases st
  case okay =>
    split
    · next kind => simp [kind]
    · next kind => simp [kind]
    all_goals next h => cases h
  all_goals simp

theorem exec_memoryResponse (hs : s.inReset = false) :
    exec (.memoryResponse h st data) s = .next (s.hostMemoryResponse h st data) := running_eq s _ hs

end

section
variable (s : State) (p : HostResponse) (ps : List HostResponse)

theorem carries?_iff (t : HostTag) (x : Option Context) : carries? t x = true ↔ ∃ y, x = some y ∧ y.req.tag = t := by
  cases x <;> simp [carries?]

/-- The freeing of a context asks for a pass (R54). -/
theorem afterReturn_passAsked (c : CtxId) (x : Context) (used : s.ctx c = some x) (carries : x.req.tag = p.tag)
    (held : s.hold ≠ []) : (s.afterReturn p ps).passAsked = true := by
  have frees (u : State) (same : u.contexts = s.contexts) (hold : u.hold = s.hold) :
      (u.freeCarrier p.tag).passAsked = true := by
    have found : u.contexts.toList.any (carries? p.tag) = true := by
      rw [← Bool.not_eq_false, vec_any_eq_false, same]
      intro none
      have := none c
      rw [show s.contexts.get c = some x from used, carries?, beq_eq_false_iff_ne] at this
      exact this carries
    rw [State.freeCarrier, if_pos found]
    exact askPass_held _ (by exact hold ▸ held)
  unfold State.afterReturn
  dsimp only
  split <;> exact frees _ rfl rfl

end

/-- Settles O49: the response of memory, taken or discarded, and the return of the response that became ready first. -/
theorem memoryResponseAndItsReturn : Obligations.MemoryResponseAndItsReturn := by
  refine ⟨fun s h st data hs => ⟨fun e held there => ?_, fun none => ?_⟩, fun s p ps hs ready => ?_⟩
  · rw [exec_memoryResponse s h st data hs, hostMemoryResponse_taken s h st data e held there]
  · rw [exec_memoryResponse s h st data hs, hostMemoryResponse_ignored s h st data none]
  · intro counted
    have eq := afterReturn_eq s p ps
    refine ⟨s.afterReturn p ps, ?_, by rw [eq], by rw [eq], ?_, fun h ne => ?_, fun r => ?_, fun c x used => ?_,
      fun c free => ?_, fun c x used carries held => afterReturn_passAsked s p ps c x used carries held, eq⟩
    · rw [exec_responseReturn s hs, returnResponse_cons s p ps ready]
      refine congrArg _ ?_
      unfold counted
      cases (s.tagEntry p.tag).bind (·.counted) <;> rfl
    · rw [afterReturn_tagEntry, if_pos rfl]
    · rw [afterReturn_tagEntry, if_neg ne]
    · exact afterReturn_ring_eq s p ps r
    · rw [afterReturn_ctx, used]
      simp only [carries?, beq_iff_eq]
    · rw [afterReturn_ctx, free]
      rfl

end Sys2Proof.Machine

/-! The memory port (chapter 10): the arbiter, and the outcomes under own tags. What the bridge writes passes its readers'
tests (chapter 12). -/

namespace Sys2Proof.Machine

open Sys2Proof.Safety

/-! ### The class granted (R162) -/

theorem find?_three_eq_some {α : Type} (p : α → Bool) (a b c k : α) : [a, b, c].find? p = some k ↔
    p k = true ∧ (k = a ∨ (¬p a = true ∧ (k = b ∨ (¬p b = true ∧ k = c)))) := by
  by_cases first : p a = true
  · rw [List.find?_cons_of_pos first]
    grind
  · rw [List.find?_cons_of_neg first]
    by_cases second : p b = true
    · rw [List.find?_cons_of_pos second]
      grind
    · rw [List.find?_cons_of_neg second]
      grind

section
variable (s : State)

theorem freeOwnTag_isSome : s.freeOwnTag.isSome = true ↔ ∃ o, s.ownTag o = .free := by
  simp [State.freeOwnTag]

theorem eligible_host : s.eligible .host = true ↔ s.forward ≠ [] := by simp [State.eligible]

theorem eligible_journal : s.eligible .journal = true ↔ s.journal ≠ [] ∧ ∃ o, s.ownTag o = .free := by
  rw [← freeOwnTag_isSome]
  simp [State.eligible]

theorem eligible_service : s.eligible .service = true ↔ s.service ≠ [] ∧ ∃ o, s.ownTag o = .free := by
  rw [← freeOwnTag_isSome]
  simp [State.eligible]

theorem mem_searched (last k : ArbClass) : k ∈ last.searched := by cases last <;> cases k <;> decide

theorem granted_eq_none : s.granted = none ↔ ∀ k, ¬s.eligible k = true := by
  rw [State.granted, List.find?_eq_none]
  exact ⟨fun h k => h k (mem_searched _ k), fun h k _ => h k⟩

theorem eligible_of_granted (k : ArbClass) (h : s.granted = some k) : s.eligible k = true := List.find?_some h

/-- The own tag under which an access is issued: the free one of lowest index (R161). -/
theorem freeOwnTag_of_granted (k : ArbClass) (own : k ≠ .host) (h : s.granted = some k) :
    ∃ o, s.freeOwnTag = some o ∧ s.ownTag o = .free ∧ ∀ p, p < o → s.ownTag p ≠ .free := by
  have free : s.freeOwnTag.isSome = true := by
    have can := eligible_of_granted s k h
    cases k
    case host => exact absurd rfl own
    all_goals exact (Bool.and_eq_true_iff.1 can).2
  obtain ⟨o, first⟩ := Option.isSome_iff_exists.1 free
  refine ⟨o, first, by simpa using List.find?_some first, fun p less => ?_⟩
  obtain ⟨-, i, len, at_, before⟩ := List.find?_eq_some_iff_getElem.1 first
  rw [List.getElem_finRange] at at_
  subst at_
  simpa using before p.val less

/-! ### What a grant issues (R160 to R162) -/

theorem fillRoom_eq : s.fillRoom = { s with
    forward := s.forward ++ (s.decided.take 1).map (·.req), decided := s.decided.drop 1
    passAsked := s.passAsked || (s.decided.isEmpty && s.passStopped && !s.hold.isEmpty) } := by
  obtain ⟨d, decided⟩ | none : (∃ d ds, s.decided = d :: ds) ∨ s.decided = [] := by
    cases s.decided <;> simp
  · obtain ⟨ds, decided⟩ := decided
    simp [State.fillRoom, decided]
  · have same (u : State) (h : u.decided = []) : u = { u with decided := [] } := by rw [← h]
    simp only [State.fillRoom, none]
    split
    · next stopped => simpa [State.askPass, stopped] using none
    · next stopped => simpa [stopped] using same s none

section
variable (h : HostTag)

/-- The request under a tag is at memory from now on (R160). -/
def State.noteAtMemory : State :=
  match s.tagEntry h with
  | none => s
  | some e => s.setTag h (some { e with atMemory := true })

theorem noteAtMemory_tagEntry_self :
    (s.noteAtMemory h).tagEntry h = (s.tagEntry h).map fun e => { e with atMemory := true } := by
  unfold State.noteAtMemory
  split
  · next none => rw [none]; rfl
  · next held => rw [State.setTag_tagEntry_self, held]; rfl

theorem noteAtMemory_tagEntry_ne (u : HostTag) (ne : u ≠ h) : (s.noteAtMemory h).tagEntry u = s.tagEntry u := by
  unfold State.noteAtMemory
  split
  · rfl
  · exact State.setTag_tagEntry_ne _ _ _ _ ne

theorem noteAtMemory_eq : s.noteAtMemory h = { s with tags := (s.noteAtMemory h).tags } := by
  unfold State.noteAtMemory
  split <;> rfl

end

/-- The head of the forward buffer goes to memory, and the buffer gains a place (R159, R162). -/
theorem issueHost_cons (q : HostRequest) (qs : List HostRequest) (h : s.forward = q :: qs) : s.issueHost =
    ({ s with
      forward := qs, lastClass := .host
      memOut := some ⟨q.tag.castLE (by decide), q.kind, q.addr, q.size, q.data, q.enables⟩ }.noteAtMemory q.tag).fillRoom := by
  simp only [State.issueHost, h]
  rfl

section
variable (a : Access) (o : OwnTag) (cls : ArbClass)

theorem noteIssued_ctx (w : Owner) (c : CtxId) : (s.noteIssued w o).ctx c =
    if w.ctx? = some c then (s.ctx c).map fun x => { x with access := .issued o } else s.ctx c := by
  unfold State.noteIssued
  split
  · next none => rw [none, if_neg (by simp)]
  · next d owner =>
    by_cases same : d = c
    · subst same
      rw [if_pos owner]
      split
      · next none => rw [none]; rfl
      · next x used => rw [State.setCtx_ctx_self, used]; rfl
    · rw [if_neg (by rw [owner]; exact fun h => same (Option.some.inj h))]
      split
      · rfl
      · exact State.setCtx_ctx_ne _ _ _ _ (Ne.symm same)

theorem noteIssued_eq (w : Owner) : s.noteIssued w o = { s with contexts := (s.noteIssued w o).contexts } := by
  unfold State.noteIssued
  split
  · rfl
  · split <;> rfl

/-- An own access goes to memory under its own tag, with a timer of 1,000 µs (R161). -/
theorem issueOwn_eq : s.issueOwn a o cls = { s with
    lastClass := cls, contexts := (s.issueOwn a o cls).contexts
    memOut := some ⟨o.natAdd 32, a.kind, a.addr, a.size, a.data, List.replicate a.data.length true⟩
    ownTags := (s.setOwnTag o (.inUse (some a.owner) 1000)).ownTags } := by
  rw [State.issueOwn, noteIssued_eq, ← List.map_const']
  rfl

theorem issueOwn_ctx (c : CtxId) : (s.issueOwn a o cls).ctx c =
    if a.owner.ctx? = some c then (s.ctx c).map fun x => { x with access := .issued o } else s.ctx c :=
  noteIssued_ctx ..

theorem issueOwn_ownTag (p : OwnTag) :
    (s.issueOwn a o cls).ownTag p = (s.setOwnTag o (.inUse (some a.owner) 1000)).ownTag p := by
  rw [issueOwn_eq]
  rfl

section
variable (rest : List Access) (free : s.freeOwnTag = some o)
include free

theorem grant_journal (granted : s.granted = some .journal) (first : s.journal = a :: rest) :
    s.grant = { s with journal := rest }.issueOwn a o .journal := by
  simp only [State.grant, granted, first, free]

theorem grant_service (granted : s.granted = some .service) (first : s.service = a :: rest) :
    s.grant = { s with service := rest }.issueOwn a o .service := by
  simp only [State.grant, granted, first, free]

end

end

theorem grant_host (granted : s.granted = some .host) : s.grant = s.issueHost := by simp only [State.grant, granted]

theorem grant_none (granted : s.granted = none) : s.grant = s := by simp only [State.grant, granted]

theorem exec_arbiterGrant (hs : s.inReset = false) : exec .arbiterGrant s = .next s.grant := running_eq s _ hs

end

/-- Settles O50: the class granted, and what HOST, JOURNAL and SERVICE issue. -/
theorem arbiterGrantsInCyclicOrder : Obligations.ArbiterGrantsInCyclicOrder := by
  intro s hs own can next
  have eligible (k : ArbClass) : s.eligible k = true ↔ can k := by
    cases k with
    | host => exact eligible_host s
    | journal => exact eligible_journal s
    | service => exact eligible_service s
  rw [exec_arbiterGrant s hs]
  refine ⟨?_, fun k => ?_, fun none => congrArg _ (grant_none s none), fun q qs granted first => ?_,
    fun k a rest granted first => ?_⟩
  · rw [granted_eq_none]
    exact forall_congr' fun k => not_congr (eligible k)
  · have searched : s.lastClass.searched = [next s.lastClass, next (next s.lastClass), s.lastClass] := by
      cases s.lastClass <;> rfl
    rw [State.granted, searched, find?_three_eq_some]
    simp only [eligible]
  · rw [grant_host s granted]
    have frame := issueHost_eq s
    have issued := issueHost_cons s q qs first
    rw [fillRoom_eq, noteAtMemory_eq] at issued
    refine ⟨s.issueHost, rfl, by rw [issued], by rw [issued], ?_, fun h ne => ?_, by rw [issued], by rw [issued],
      by rw [issued], by exact frame⟩
    · rw [issued]
      exact noteAtMemory_tagEntry_self ..
    · rw [issued]
      exact noteAtMemory_tagEntry_ne _ _ _ ne
  · have own : k ≠ .host := by
      rintro rfl
      rcases first with ⟨h, -⟩ | ⟨h, -⟩ <;> cases h
    obtain ⟨o, free, isFree, lowest⟩ := freeOwnTag_of_granted s k own granted
    refine ⟨o, s.grant, rfl, isFree, lowest, ?_⟩
    rcases first with ⟨rfl, first⟩ | ⟨rfl, first⟩
    · rw [grant_journal s a o rest free granted first]
      have frame := issueOwn_eq { s with journal := rest } a o .journal
      refine ⟨?_, fun p ne => ?_, by rw [frame], by rw [frame], by rw [frame]; rfl, by rw [frame]; rfl, fun c owner => ?_,
        fun c other => ?_, by rw [frame]⟩
      · exact (issueOwn_ownTag ..).trans (State.setOwnTag_ownTag_self ..)
      · exact (issueOwn_ownTag ..).trans (State.setOwnTag_ownTag_ne _ _ _ _ ne)
      · exact (issueOwn_ctx ..).trans (if_pos owner)
      · exact (issueOwn_ctx ..).trans (if_neg other)
    · rw [grant_service s a o rest free granted first]
      have frame := issueOwn_eq { s with service := rest } a o .service
      refine ⟨?_, fun p ne => ?_, by rw [frame], by rw [frame], by rw [frame]; rfl, by rw [frame]; rfl, fun c owner => ?_,
        fun c other => ?_, by rw [frame]⟩
      · exact (issueOwn_ownTag ..).trans (State.setOwnTag_ownTag_self ..)
      · exact (issueOwn_ownTag ..).trans (State.setOwnTag_ownTag_ne _ _ _ _ ne)
      · exact (issueOwn_ctx ..).trans (if_pos owner)
      · exact (issueOwn_ctx ..).trans (if_neg other)

/-! ### Outcomes under own tags (R62, R163) -/

section
variable (s : State) (o : OwnTag) (hs : s.inReset = false)
include hs

theorem exec_ownAccessTimeout (us : Nat) : exec (.ownAccessTimeout o us) s = .next ((s.passTime us).ownTimeout o) :=
  running_eq s _ hs

theorem exec_orphanResponse (st : MemStatus) (data : List Byte) :
    exec (.orphanResponse o st data) s = .next (s.orphanAnswered o) := running_eq s _ hs

end

section
variable (s : State) (o : OwnTag)

/-- The timeout of a tag in use is taken when its time has run out (R163). -/
theorem ownTimeout_owned (w : Owner) (left : Nat) (h : s.ownTag o = .inUse (some w) left) :
    s.ownTimeout o = if left = 0 then (s.setOwnTag o .quarantined).deliver w .failed else s := by
  cases left <;> simp [State.ownTimeout, h]

theorem ownTimeout_ownerless (left : Nat) (h : s.ownTag o = .inUse none left) :
    s.ownTimeout o = if left = 0 then s.setOwnTag o .quarantined else s := by
  cases left <;> simp [State.ownTimeout, h]

theorem ownTimeout_idle (h : s.ownTag o = .free ∨ s.ownTag o = .quarantined) : s.ownTimeout o = s := by
  rcases h with h | h <;> simp only [State.ownTimeout, h]

theorem orphanAnswered_ownerless (h : s.ownTag o = .quarantined ∨ ∃ n, s.ownTag o = .inUse none n) :
    s.orphanAnswered o = s.setOwnTag o .free := by
  rcases h with h | ⟨n, h⟩ <;> simp only [State.orphanAnswered, h]

theorem orphanAnswered_free (h : s.ownTag o = .free) : s.orphanAnswered o = s := by
  simp only [State.orphanAnswered, h]

end

/-- Settles O51: a response by the row of the access's owner, the timeout of a tag with an owner, of an orphan and of any
other, and the response that reaches no one. -/
theorem ownTagOutcomes : Obligations.OwnTagOutcomes := by
  intro s o st data hs
  refine ⟨fun w n tag => ?_, fun us w left tag => ?_, fun us left tag => ?_, fun us idle => ?_, fun ownerless => ?_,
    fun free => ?_⟩
  · cases w
    all_goals refine (running_eq s _ hs).trans (congrArg _ ((answered_eq s o _ _ _ n tag rfl).trans (congrArg _ ?_)))
    all_goals cases st <;> rfl
  · have passed : (s.passTime us).ownTag o = .inUse (some w) (left - us) := by rw [State.passTime_ownTag, tag]
    rw [exec_ownAccessTimeout s o hs, ownTimeout_owned _ o _ _ passed]
    simp only [Nat.sub_eq_zero_iff_le]
  · have passed : (s.passTime us).ownTag o = .inUse none (left - us) := by rw [State.passTime_ownTag, tag]
    rw [exec_ownAccessTimeout s o hs, ownTimeout_ownerless _ o _ passed]
    simp only [Nat.sub_eq_zero_iff_le]
  · rw [exec_ownAccessTimeout s o hs, ownTimeout_idle]
    rcases idle with tag | tag <;> rw [State.passTime_ownTag, tag] <;> simp
  · rw [exec_orphanResponse s o hs, orphanAnswered_ownerless s o ownerless]
  · rw [exec_orphanResponse s o hs, orphanAnswered_free s o free]

/-! ### Written records (R180, R181) -/

theorem byteAt_leBytes_skip (n v : Nat) (ys : List Byte) (off : Nat) :
    byteAt (leBytes n v ++ ys) (n + off) = byteAt ys off := by
  rw [byteAt_append_right _ _ _ (by simp), leBytes_length, Nat.add_sub_cancel_left]

section
variable (kind : Nat) (r : RingId) (reason : Nat) (tag : JournalTag) (e : Epoch) (line : Addr) (seq : Seq) (released : Nat)
  (image : List Byte)

/-- The fields of a written header in their order, each before the rest of the header. -/
theorem sealHeader_eq : sealHeader (headerBody kind r reason tag e line seq released) image =
    leBytes 2 kind ++ (leBytes 1 r.val ++ (leBytes 1 reason ++ (leBytes 2 tag.toNat ++ (leBytes 4 e.toNat ++
      (leBytes 5 line.toNat ++ (leBytes 1 0 ++ (leBytes 8 seq.toNat ++ (leBytes 4 released ++ (leBytes 4
        (crc32 (headerBody kind r reason tag e line seq released ++ image)).toNat ++ []))))))))) := by
  simp only [sealHeader, headerBody, List.append_assoc, List.append_nil]

theorem sealHeader_length : (sealHeader (headerBody kind r reason tag e line seq released) image).length = 32 := by
  simp [sealHeader]

/-- What a reader finds in the fields that it tests. -/
theorem parseHeader_sealHeader (small : kind < 2 ^ 16) :
    parseHeader (sealHeader (headerBody kind r reason tag e line seq released) image) =
      { kind, ring := r.val, tag, epoch := e, line, seq,
        check := crc32 (headerBody kind r reason tag e line seq released ++ image) } := by
  have checked := (crc32 (headerBody kind r reason tag e line seq released ++ image)).isLt
  rw [sealHeader_eq, parseHeader, Header.mk.injEq]
  refine ⟨fieldAt_leBytes_append 2 _ _ small, ?_, ?_, ?_, ?_, ?_, ?_⟩
  · exact (byteAt_leBytes_skip 2 kind _ 0).trans (byteAt_leBytes_append r.val _ (by omega))
  · rw [ofNat_eq_iff _ _ (fieldAt_lt _ 4 2)]
    change fieldAt _ (2 + (1 + (1 + 0))) 2 = _
    iterate 3 rw [fieldAt_leBytes_append_right]
    exact fieldAt_leBytes_append 2 _ _ tag.isLt
  · rw [ofNat_eq_iff _ _ (fieldAt_lt _ 6 4)]
    change fieldAt _ (2 + (1 + (1 + (2 + 0)))) 4 = _
    iterate 4 rw [fieldAt_leBytes_append_right]
    exact fieldAt_leBytes_append 4 _ _ e.isLt
  · rw [ofNat_eq_iff _ _ (fieldAt_lt _ 10 5)]
    change fieldAt _ (2 + (1 + (1 + (2 + (4 + 0))))) 5 = _
    iterate 5 rw [fieldAt_leBytes_append_right]
    exact fieldAt_leBytes_append 5 _ _ line.isLt
  · rw [ofNat_eq_iff _ _ (fieldAt_lt _ 16 8)]
    change fieldAt _ (2 + (1 + (1 + (2 + (4 + (5 + (1 + 0))))))) 8 = _
    iterate 7 rw [fieldAt_leBytes_append_right]
    exact fieldAt_leBytes_append 8 _ _ seq.isLt
  · rw [ofNat_eq_iff _ _ (fieldAt_lt _ 28 4)]
    change fieldAt _ (2 + (1 + (1 + (2 + (4 + (5 + (1 + (8 + (4 + 0))))))))) 4 = _
    iterate 9 rw [fieldAt_leBytes_append_right]
    exact fieldAt_leBytes_append 4 _ _ checked

/-- The check that a reader computes over a written record is the one written in it (R181). -/
theorem checkOf_sealHeader : checkOf (sealHeader (headerBody kind r reason tag e line seq released) image) image =
    crc32 (headerBody kind r reason tag e line seq released ++ image) := by
  rw [checkOf, sealHeader_take _ _ (headerBody_length ..)]

theorem sealHeader_reason (small : reason < 256) :
    byteAt (sealHeader (headerBody kind r reason tag e line seq released) image) 3 = reason := by
  rw [sealHeader_eq]
  change byteAt _ (2 + (1 + 0)) = _
  rw [byteAt_leBytes_skip, byteAt_leBytes_skip, byteAt_leBytes_append _ _ small]

theorem sealHeader_released :
    fieldAt (sealHeader (headerBody kind r reason tag e line seq released) image) 24 4 = released % 2 ^ 32 := by
  rw [sealHeader_eq]
  change fieldAt _ (2 + (1 + (1 + (2 + (4 + (5 + (1 + (8 + 0)))))))) 4 = _
  iterate 8 rw [fieldAt_leBytes_append_right]
  exact (fieldAt_append_left (leBytes 4 released) _).trans (leNat_leBytes 4 released)

end

theorem lineOf_lineOf (a : Addr) : lineOf (lineOf a) = lineOf a := by
  rw [lineOf, lineOf, BitVec.and_assoc, BitVec.and_self]

/-- Settles O52: the check value, then a written PRE-IMAGE and a written mark before the tests of their readers. -/
theorem writtenRecordsPassTheirReaders : Obligations.WrittenRecordsPassTheirReaders := by
  refine ⟨by decide +kernel, fun x r v a image tag => ?_, fun x r m seq epoch => ?_⟩
  · intro h
    have parsed : parseHeader h = _ := parseHeader_sealHeader kindPreImage r 0 v.tag v.epoch (lineOf a) v.seq 0 image (by decide)
    have checked : checkOf h image = _ := checkOf_sealHeader kindPreImage r 0 v.tag v.epoch (lineOf a) v.seq 0 image
    refine ⟨sealHeader_length .., fun epoch expected => ?_, fun epoch => ?_, fun m epoch seq => ?_, by rw [parsed],
      by rw [parsed, checked]⟩
    · simp [Ring.restorePasses, parsed, checked, tag, epoch, expected]
    · simp [Ring.steerPasses, parsed, checked, tag, epoch]
    · simp [Ring.walkPasses, parsed, tag, epoch, seq, lineOf_lineOf]
  · intro h
    have parsed : parseHeader h = _ :=
      parseHeader_sealHeader kindMark r m.reason.code x.config.tag m.epoch 0 m.seq m.released [] (by decide)
    have checked : checkOf h [] = _ := checkOf_sealHeader kindMark r m.reason.code x.config.tag m.epoch 0 m.seq m.released []
    have small : m.reason.code < 256 := by
      rcases m.reason with _ | trigger | _
      · decide
      · cases trigger <;> decide
      · decide
    refine ⟨sealHeader_length .., ?_, by rw [parsed], by rw [parsed], sealHeader_reason _ _ _ _ _ _ _ _ _ small,
      sealHeader_released ..⟩
    simp [Ring.validMark, parsed, checked]
    exact ⟨seq, epoch⟩

end Sys2Proof.Machine

/-! The step, the device reset and its end, and the state right after a reset. -/

namespace Sys2Proof.Machine

open Sys2Proof.Safety

/-- Settles O1: by the definition of the step. -/
theorem stepRunsTheFrontCommand : Obligations.StepRunsTheFrontCommand := fun _ _ _ => rfl

/-! ### DEVICE_RESET and DEVICE_RESET_END (R23, R165, R179) -/

section
variable (s : State)

theorem inDeviceReset_region (i : Fin 12) :
    s.inDeviceReset.region i = { enable := false, base := 0, mask := 0, cls := .pass, ring := 0 } := by
  fin_cases i <;> rfl

theorem inDeviceReset_ownTag (o : OwnTag) : s.inDeviceReset.ownTag o = .free := by fin_cases o <;> rfl

theorem inDeviceReset_rejected (i : SlotId) : s.inDeviceReset.rejected.get i = false := by fin_cases i <;> rfl

/-- While RESET_N is low a command other than DEVICE_RESET and DEVICE_RESET_END has no effect. -/
theorem exec_inReset (low : s.inReset = true) (c : Instr) (reset : c ≠ .deviceReset)
    (leaves : ∀ b h, c ≠ .deviceResetEnd b h) : exec c s = .next s := by
  cases c
  case deviceReset => exact absurd rfl reset
  case deviceResetEnd b h => exact absurd rfl (leaves b h)
  all_goals exact running_reset s _ low

section
variable (waits : s.frameWait = true)
include waits

/-- What is left of the frame that the reset cut off ends the wait for SSEL_N (R179). -/
theorem whole_waits (act : State → State) : s.whole act = { s with frameWait := false } := if_pos waits

theorem readFrame_waits (f : State → Frame) (n : Nat) :
    s.readFrame f (.whole n) = { s with frameWait := false } ∧ s.readFrame f (.ends n) = { s with frameWait := false } ∧
      s.readFrame f .kindByte = s :=
  ⟨if_pos waits, if_pos waits, if_pos waits⟩

end

end

/-- Settles O2: what the reset leaves, what it holds off, its end, and the end of the wait for SSEL_N. -/
theorem deviceResetAndItsEnd : Obligations.DeviceResetAndItsEnd := by
  refine ⟨fun s => ⟨s.inDeviceReset, rfl, rfl, inDeviceReset_region s, fun r => ?_, inDeviceReset_ctx s, rfl, rfl,
    inDeviceReset_tagEntry s, rfl, rfl, rfl, inDeviceReset_ownTag s, rfl, rfl, rfl, inDeviceReset_slot s, rfl,
    inDeviceReset_rejected s, rfl, rfl, rfl, rfl, rfl, rfl, rfl, rfl, rfl, rfl, rfl⟩, fun s low => ⟨?_, ?_, ?_, ?_⟩, ?_⟩
  · rw [inDeviceReset_ring]
    simp only [Ring.reset, RingConfig.reset, and_self]
  · exact fun c reset leaves => exec_inReset s low c reset leaves
  · exact fun b h => congrArg _ (if_pos low)
  · simp only [State.hostReady, low, Bool.not_true, Bool.false_and]
  · simp only [State.notify, low, Bool.not_true, Bool.false_and]
  · intro s i body k n p hs waits ended
    have reads (f : State → Frame) := readFrame_waits s waits f n
    refine ⟨?_, fun undefined => ?_, fun part => ?_, ?_, ?_, ?_⟩
    · rw [exec_commandFrame s hs, whole_waits s waits]
    · rw [exec_unknownFrameKind s hs k n undefined, whole_waits s waits]
    · rw [exec_responseRead s i p hs, exec_statusRead s p hs, exec_eventRead s p hs]
      rcases part with rfl | rfl
      · exact ⟨congrArg _ (reads _).1, congrArg _ (reads _).1, congrArg _ (reads _).1⟩
      · exact ⟨congrArg _ (reads _).2.1, congrArg _ (reads _).2.1, congrArg _ (reads _).2.1⟩
    · exact (exec_responseRead s i _ hs).trans (congrArg _ (reads _).2.2)
    · exact (exec_statusRead s _ hs).trans (congrArg _ (reads _).2.2)
    · exact (exec_eventRead s _ hs).trans (congrArg _ (reads _).2.2)

/-! ### The laws right after reset -/

theorem reset_ring (r : RingId) : State.reset.ring r = Ring.reset := by fin_cases r <;> rfl

theorem reset_ctx (c : CtxId) : State.reset.ctx c = none := by fin_cases c <;> rfl

theorem reset_tagEntry (h : HostTag) : State.reset.tagEntry h = none := by fin_cases h <;> rfl

theorem reset_slot (i : SlotId) : State.reset.slot i = .empty := by fin_cases i <;> rfl

/-- Settles O53: every queue is empty, no tag, context or slot is in use, and all four rings are CLOSED. -/
theorem lawsHoldAtReset : Obligations.LawsHoldAtReset := by
  refine ⟨⟨?_, ?_, ?_, ?_, fun r => ?_⟩, slotLaw_reset reset_slot rfl rfl, fun r => ?_, fun _ r => ?_, fun r => ?_,
    fun r => ?_, fun r => ?_, ?_, ?_⟩
  · exact Nat.zero_le 16
  · exact Nat.zero_le 4
  · exact fun some => absurd rfl some
  · exact Nat.zero_le 32
  · rw [reset_ring]
    exact Nat.zero_le 256
  · rw [reset_ring]
    exact ⟨Nat.zero_le 255, fun high => absurd high (by decide)⟩
  · rw [reset_ring]
    rfl
  · rw [reset_ring]
    simp [Settled, Ring.reset, Phase.state]
  · rw [reset_ring]
    exact positioned_closed rfl (.inl rfl)
  · rw [reset_ring]
    exact numbered_closed rfl
  · exact idle_traffic rfl reset_ctx (fun r => by rw [reset_ring]; rfl) rfl rfl reset_tagEntry rfl
      fun r => by rw [reset_ring]; rfl
  · have unused (c : CtxId) (x : Context) (used : State.reset.ctx c = some x) : False := by
      rw [reset_ctx] at used
      cases used
    exact ⟨fun c x used => (unused c x used).elim, fun c _ x _ used => (unused c x used).elim,
      fun c x _ used => (unused c x used).elim, fun e held => absurd held List.not_mem_nil,
      fun e held => absurd held List.not_mem_nil⟩

end Sys2Proof.Machine
